-- ==== Sys2Proof/Word.lean ====
section
/-!
DEFINITION. The word types of the engine (00_scope.md R8, R10): every value is an unsigned string of
bits or a string of bytes, bit 0 the least significant, a byte string first byte first.
-/

namespace Sys2Proof

/-- A stream byte, one lane of a packet, one character or one byte of a datagram (R8). -/
abbrev Byte := BitVec 8

/-- A code index number, a cable number, a channel or one hex digit's value (R94, R96). -/
abbrev Nibble := BitVec 4

/-- A 32-bit value of the hex codec (R8). -/
abbrev Word := BitVec 32

/-- An event packet as its 32-bit value `{TAG, P0, P1, P2}` (10_state.md R45). -/
abbrev Packet := BitVec 32

/-- A byte string: a datagram, a hex string, a name (20_memory.md R61). -/
abbrev ByteString := List Byte

end Sys2Proof
end

