-- ==== Sys2Proof/Config.lean ====
section
/-!
DEFINITION. What an engine is configured with before it runs (00_scope.md R9, 10_state.md R40), its
reference values, and the one value of the host's side that the spec leaves open.
-/

namespace Sys2Proof

/-- The configuration registers of R40. They are plain data of the state: no operation writes them, and
every statement holds for each of their legal values. `N_INSTANCES` is no register here: it is the
number of decoder instances the state holds (R39). -/
structure Config where
  /-- `CFG_APP`, the application name of the wire formats. -/
  app : ByteString
  /-- `CFG_CABLE`, written by DECODE into the tag's high nibble. -/
  cable : Nibble
  /-- `CFG_HEX_UPPER`: HEX_DECODE accepts 'A' to 'F' too. -/
  hexUpper : Bool
  /-- `CFG_EVENT_PAD`, the number of 0x00 bytes that end an event datagram; legal values 3 and 4. -/
  eventPad : BitVec 3
  /-- `CFG_NAME_MAX`, the longest hello name; `none` where it is not set (R250). -/
  nameMax : Option Nat
  deriving DecidableEq, Repr

/-- The reference configuration of R9: APP "osc2midi", cable 0, uppercase accepted, 3 NULs, and no name
limit (DESIGN CHOICE for a machine nobody has configured, log 1). -/
def Config.reference : Config where
  app := [0x6F, 0x73, 0x63, 0x32, 0x6D, 0x69, 0x64, 0x69]
  cable := 0
  hexUpper := true
  eventPad := 3
  nameMax := none

/-- What the host is delivered when a datagram is longer than its receive buffer (`HOST_RX_MAX`, D31):
the spec does not say, so the value is free (log 13). The engine never reads it. -/
opaque Config.oversizeDelivery : Nat → ByteString → ByteString

end Sys2Proof
end

