-- ==== Sys2Proof/Machine/Formats.lean ====
section
/-!
DEFINITION. The formats and tables of 30_encoding.md: stream-byte classes (R91), the status table (R93),
the packet layout (R94), CIN_LEN (R95), hex digits (R96, R231), datagram prefixes (R97 to R99) and the
prefix match (43_wire_protocol.md R261). The numbers are the spec's own (log 10).
-/

namespace Sys2Proof.Machine

/-- The five classes DECODE sorts a stream byte into (R91). -/
inductive ByteClass where
  /-- Real-time, 0xF8 to 0xFF. -/
  | rt
  /-- The sysex end marker 0xF7. -/
  | sxEnd
  /-- The sysex start marker 0xF0. -/
  | sxStart
  /-- Any other status byte. -/
  | status
  /-- Top bit clear. -/
  | data
  deriving DecidableEq, Repr

/-- R91: the class of a stream byte, tested in the order the rule gives. -/
def classOf (b : Byte) : ByteClass :=
  if 0xF8 ≤ b then .rt
  else if b = 0xF7 then .sxEnd
  else if b = 0xF0 then .sxStart
  else if b.getLsbD 7 then .status
  else .data

/-- The high nibble of a stream byte: bit S and field TYPE (R90). -/
def highNibble (b : Byte) : Nibble := b.extractLsb' 4 4

/-- The low nibble of a stream byte: field CH or SUB (R90). -/
def lowNibble (b : Byte) : Nibble := b.extractLsb' 0 4

/-- `EXP_OF`, the data bytes a status takes (R93; 10_state.md R37 for 0x00). `none` where the table has
no row: a value DECODE never stores in `RS`. -/
def expOf (s : Byte) : Option (BitVec 2) :=
  if s = 0x00 then some 0
  else match highNibble s with
    | 0x8#4 | 0x9#4 | 0xA#4 | 0xB#4 | 0xE#4 => some 2
    | 0xC#4 | 0xD#4 => some 1
    | 0xF#4 =>
      match lowNibble s with
      | 0x1#4 | 0x3#4 => some 1
      | 0x2#4 => some 2
      | 0x0#4 | 0x4#4 | 0x5#4 | 0x6#4 => some 0
      | _ => none
    | _ => none

/-- `CIN_OF`, the code index number of a status (R93). `none` where the table gives none. -/
def cinOf (s : Byte) : Option Nibble :=
  match highNibble s with
  | 0x8#4 | 0x9#4 | 0xA#4 | 0xB#4 | 0xC#4 | 0xD#4 | 0xE#4 => some (highNibble s)
  | 0xF#4 =>
    match lowNibble s with
    | 0x0#4 => some 0x4
    | 0x1#4 | 0x3#4 => some 0x2
    | 0x2#4 => some 0x3
    | 0x4#4 | 0x5#4 | 0x6#4 => some 0x5
    | _ => none
  | _ => none

/-- `CIN_LEN`, how many payload lanes count for a code index number (R95). -/
def cinLen (c : Nibble) : BitVec 2 :=
  match c with
  | 0x0#4 | 0x1#4 => 0
  | 0x5#4 | 0xF#4 => 1
  | 0x2#4 | 0x6#4 | 0xC#4 | 0xD#4 => 2
  | _ => 3

/-- Field CN, bits 31:28 of a packet (R94). -/
def cableOfPacket (p : Packet) : Nibble := p.extractLsb' 28 4

/-- Field CIN, bits 27:24 of a packet (R94). -/
def cinOfPacket (p : Packet) : Nibble := p.extractLsb' 24 4

/-- Field P0, bits 23:16 of a packet (R94). -/
def lane0 (p : Packet) : Byte := p.extractLsb' 16 8

/-- Field P1, bits 15:8 of a packet (R94). -/
def lane1 (p : Packet) : Byte := p.extractLsb' 8 8

/-- Field P2, bits 7:0 of a packet (R94). -/
def lane2 (p : Packet) : Byte := p.extractLsb' 0 8

/-- The character of a nibble, always lowercase (R96). -/
def hexDigit (x : Nibble) : Byte :=
  if x ≤ 9 then 0x30 + x.setWidth 8 else 0x61 + (x.setWidth 8 - 10)

/-- R231: the value of an accepted hex character; `none` for a character that is not accepted. -/
def nibbleOf (upper : Bool) (ch : Byte) : Option Nibble :=
  if 0x30 ≤ ch ∧ ch ≤ 0x39 then some ((ch - 0x30).setWidth 4)
  else if 0x61 ≤ ch ∧ ch ≤ 0x66 then some ((ch - 0x61 + 10).setWidth 4)
  else if upper ∧ 0x41 ≤ ch ∧ ch ≤ 0x46 then some ((ch - 0x41 + 10).setWidth 4)
  else none

/-- `'/'` and the application name, which open every datagram (R97 to R99). -/
def appPrefix (app : ByteString) : ByteString := 0x2F :: app

/-- EVENT_PREFIX, `"/<app>/event\0,s\0\0"` (R98), L + 12 bytes. -/
def eventPrefix (app : ByteString) : ByteString :=
  appPrefix app ++ [0x2F, 0x65, 0x76, 0x65, 0x6E, 0x74] ++ [0x00] ++ [0x2C, 0x73, 0x00, 0x00]

/-- BYE_PREFIX, `"/<app>/bye\0\0\0"` (R99), L + 8 bytes. -/
def byePrefix (app : ByteString) : ByteString :=
  appPrefix app ++ [0x2F, 0x62, 0x79, 0x65] ++ [0x00, 0x00, 0x00]

/-- The hello header, `"/<app>/hello\0,is\0"` (R97), L + 12 bytes. -/
def helloHeader (app : ByteString) : ByteString :=
  appPrefix app ++ [0x2F, 0x68, 0x65, 0x6C, 0x6C, 0x6F] ++ [0x00] ++ [0x2C, 0x69, 0x73, 0x00]

/-- `MATCH(D, X)` (R261): D is at least as long as X and begins with it byte for byte. -/
def matchPrefix (d x : ByteString) : Bool :=
  decide (x.length ≤ d.length) && (d.take x.length == x)

end Sys2Proof.Machine
end

