-- ==== Sys2Proof/Machine/Operands.lean ====
section
/-!
DEFINITION. How each operand is assembled (30_encoding.md R101): packets from fields, the packet of a
decoder message (40_stream_decoder.md R142), the port field and the name field of a hello.
-/

namespace Sys2Proof.Machine

/-- A packet from its five fields (R94). -/
def packetOf (cn cin : Nibble) (p0 p1 p2 : Byte) : Packet := cn ++ cin ++ p0 ++ p1 ++ p2

/-- `mk(cin, p0, p1, p2)`: the packet DECODE emits, with the cable of the configuration (R142). -/
def mkPacket (cable cin : Nibble) (p0 p1 p2 : Byte) : Packet := packetOf cable cin p0 p1 p2

/-- A channel voice status byte from its message nibble and its channel (R90). -/
def voiceStatus (kind ch : Nibble) : Byte := kind ++ ch

/-- A data byte from its 7-bit value: bit S is 0 (R90). -/
def dataByteOf (d : BitVec 7) : Byte := 0#1 ++ d

/-- `be32(v)` (00_scope.md R11): four bytes, most significant first. -/
def be32 (v : Word) : ByteString :=
  [v.extractLsb' 24 8, v.extractLsb' 16 8, v.extractLsb' 8 8, v.extractLsb' 0 8]

/-- `be32(zext_32(port))`, the port field of a hello (20_memory.md R63). -/
def portField (port : BitVec 16) : ByteString := be32 (port.setWidth 32)

/-- `NF = 4·floor(len(name)/4) + 4` (R97). -/
def nameFieldLength (name : ByteString) : Nat := 4 * (name.length / 4) + 4

/-- The name field of a hello: the name and 0x00 bytes up to `NF` (R97, R101). -/
def nameField (name : ByteString) : ByteString :=
  name ++ List.replicate (nameFieldLength name - name.length) 0x00

end Sys2Proof.Machine
end

