-- ==== Sys2Proof/Syntax.lean ====
section
/-!
DEFINITION. What the host presents (`Request`, one constructor per logical port of D2) and what the
engine makes of it (`Instr`, one constructor per row of spec/opcode_table.json, 30_encoding.md R102).
-/

namespace Sys2Proof

/-- What a RESET names: "instance i (or all instances)" (70_reset_and_hazards.md R340). -/
inductive ResetTarget where
  /-- One decoder instance. -/
  | one (i : Nat)
  /-- Every decoder instance. -/
  | all
  deriving DecidableEq, Repr

/-- One transaction on a logical port (D2, the lines of 30_encoding.md R105), as the host presents it:
the port and the raw operand. -/
inductive Request where
  /-- `dec[i] b`. -/
  | decode (i : Nat) (b : Byte)
  /-- `exp TT P0 P1 P2`. -/
  | expand (p : Packet)
  /-- `hexenc v`. -/
  | hexEncode (v : Word)
  /-- `hexdec s`. -/
  | hexDecode (s : ByteString)
  /-- `mkhello PORT name`. -/
  | buildHello (port : BitVec 16) (name : ByteString)
  /-- `mkevent TT P0 P1 P2`. -/
  | buildEvent (p : Packet)
  /-- `mkbye`. -/
  | buildGoodbye
  /-- `parse D`. -/
  | parse (d : ByteString)
  /-- `reset[i]`. -/
  | reset (t : ResetTarget)
  deriving DecidableEq, Repr

/-- The engine's ports (D2), as the `unit` column of the opcode table names them. -/
inductive PortName where
  | decode | expand | hexEncode | hexDecode | buildHello | buildEvent | buildGoodbye | parse | reset
  deriving DecidableEq, Repr

/-- The port a transaction is presented on. -/
def Request.port : Request → PortName
  | .decode _ _ => .decode
  | .expand _ => .expand
  | .hexEncode _ => .hexEncode
  | .hexDecode _ => .hexDecode
  | .buildHello _ _ => .buildHello
  | .buildEvent _ => .buildEvent
  | .buildGoodbye => .buildGoodbye
  | .parse _ => .parse
  | .reset _ => .reset

/-- The instructions: one constructor per row of the opcode table. `i` names a decoder instance; `ch` is
the channel bits a status byte carries; `cn` is the cable nibble and `p0 p1 p2` the payload lanes of a
packet; the operand of a PARSE row is what follows the prefix the row matched. -/
inductive Instr where
  /-- DATA, stream bytes 0x00 to 0x7F (R144). -/
  | data (i : Nat) (d : BitVec 7)
  /-- NOTE_OFF, 0x80 to 0x8F (R146). -/
  | noteOff (i : Nat) (ch : Nibble)
  /-- NOTE_ON, 0x90 to 0x9F (R147). -/
  | noteOn (i : Nat) (ch : Nibble)
  /-- POLY_PRESSURE, 0xA0 to 0xAF (R148). -/
  | polyPressure (i : Nat) (ch : Nibble)
  /-- CONTROL_CHANGE, 0xB0 to 0xBF (R149). -/
  | controlChange (i : Nat) (ch : Nibble)
  /-- PROGRAM_CHANGE, 0xC0 to 0xCF (R150). -/
  | programChange (i : Nat) (ch : Nibble)
  /-- CHANNEL_PRESSURE, 0xD0 to 0xDF (R151). -/
  | channelPressure (i : Nat) (ch : Nibble)
  /-- PITCH_BEND, 0xE0 to 0xEF (R152). -/
  | pitchBend (i : Nat) (ch : Nibble)
  /-- SYSEX_START, 0xF0 (R153). -/
  | sysexStart (i : Nat)
  /-- MTC_QUARTER_FRAME, 0xF1 (R154). -/
  | mtcQuarterFrame (i : Nat)
  /-- SONG_POSITION, 0xF2 (R155). -/
  | songPosition (i : Nat)
  /-- SONG_SELECT, 0xF3 (R156). -/
  | songSelect (i : Nat)
  /-- UNDEF_F4, 0xF4 (R157). -/
  | undefF4 (i : Nat)
  /-- UNDEF_F5, 0xF5 (R158). -/
  | undefF5 (i : Nat)
  /-- TUNE_REQUEST, 0xF6 (R159). -/
  | tuneRequest (i : Nat)
  /-- SYSEX_END, 0xF7 (R160). -/
  | sysexEnd (i : Nat)
  /-- TIMING_CLOCK, 0xF8 (R161). -/
  | timingClock (i : Nat)
  /-- UNDEF_F9, 0xF9 (R162). -/
  | undefF9 (i : Nat)
  /-- START, 0xFA (R163). -/
  | start (i : Nat)
  /-- CONTINUE, 0xFB (R164). -/
  | continue_ (i : Nat)
  /-- STOP, 0xFC (R165). -/
  | stop (i : Nat)
  /-- UNDEF_FD, 0xFD (R166). -/
  | undefFD (i : Nat)
  /-- ACTIVE_SENSING, 0xFE (R167). -/
  | activeSensing (i : Nat)
  /-- SYSTEM_RESET, 0xFF (R168). -/
  | systemReset (i : Nat)
  /-- EXP_MISC, CIN 0x0 (R202). -/
  | expMisc (cn : Nibble) (p0 p1 p2 : Byte)
  /-- EXP_CABLE_EVENT, CIN 0x1 (R203). -/
  | expCableEvent (cn : Nibble) (p0 p1 p2 : Byte)
  /-- EXP_SYSCOM2, CIN 0x2 (R204). -/
  | expSyscom2 (cn : Nibble) (p0 p1 p2 : Byte)
  /-- EXP_SYSCOM3, CIN 0x3 (R205). -/
  | expSyscom3 (cn : Nibble) (p0 p1 p2 : Byte)
  /-- EXP_SYSEX, CIN 0x4 (R206). -/
  | expSysex (cn : Nibble) (p0 p1 p2 : Byte)
  /-- EXP_SINGLE_OR_SXEND1, CIN 0x5 (R207). -/
  | expSingleOrSxend1 (cn : Nibble) (p0 p1 p2 : Byte)
  /-- EXP_SXEND2, CIN 0x6 (R208). -/
  | expSxend2 (cn : Nibble) (p0 p1 p2 : Byte)
  /-- EXP_SXEND3, CIN 0x7 (R209). -/
  | expSxend3 (cn : Nibble) (p0 p1 p2 : Byte)
  /-- EXP_NOTE_OFF, CIN 0x8 (R210). -/
  | expNoteOff (cn : Nibble) (p0 p1 p2 : Byte)
  /-- EXP_NOTE_ON, CIN 0x9 (R211). -/
  | expNoteOn (cn : Nibble) (p0 p1 p2 : Byte)
  /-- EXP_POLY_PRESSURE, CIN 0xA (R212). -/
  | expPolyPressure (cn : Nibble) (p0 p1 p2 : Byte)
  /-- EXP_CONTROL_CHANGE, CIN 0xB (R213). -/
  | expControlChange (cn : Nibble) (p0 p1 p2 : Byte)
  /-- EXP_PROGRAM_CHANGE, CIN 0xC (R214). -/
  | expProgramChange (cn : Nibble) (p0 p1 p2 : Byte)
  /-- EXP_CHANNEL_PRESSURE, CIN 0xD (R215). -/
  | expChannelPressure (cn : Nibble) (p0 p1 p2 : Byte)
  /-- EXP_PITCH_BEND, CIN 0xE (R216). -/
  | expPitchBend (cn : Nibble) (p0 p1 p2 : Byte)
  /-- EXP_SINGLE_BYTE, CIN 0xF (R217). -/
  | expSingleByte (cn : Nibble) (p0 p1 p2 : Byte)
  /-- PARSE_EVENT: `payload` is `D[L+12..)`, the hex characters and the trailer (R262). -/
  | parseEvent (payload : ByteString)
  /-- PARSE_GOODBYE: `rest` is `D[L+8..)`, which is not read (R263). -/
  | parseGoodbye (rest : ByteString)
  /-- PARSE_OTHER: `d` is the whole datagram, which matches neither prefix (R264). -/
  | parseOther (d : ByteString)
  /-- HEX_ENCODE (R230). -/
  | hexEncode (v : Word)
  /-- HEX_DECODE (R232). -/
  | hexDecode (s : ByteString)
  /-- BUILD_HELLO (R250). -/
  | buildHello (port : BitVec 16) (name : ByteString)
  /-- BUILD_EVENT (R252). -/
  | buildEvent (p : Packet)
  /-- BUILD_GOODBYE (R253). -/
  | buildGoodbye
  /-- RESET (R340). -/
  | reset (t : ResetTarget)
  deriving DecidableEq, Repr

/-- The port a row belongs to: the `unit` column of the opcode table. -/
def Instr.port : Instr → PortName
  | .data _ _ | .noteOff _ _ | .noteOn _ _ | .polyPressure _ _ | .controlChange _ _
  | .programChange _ _ | .channelPressure _ _ | .pitchBend _ _
  | .sysexStart _ | .mtcQuarterFrame _ | .songPosition _ | .songSelect _ | .undefF4 _ | .undefF5 _
  | .tuneRequest _ | .sysexEnd _ | .timingClock _ | .undefF9 _ | .start _ | .continue_ _ | .stop _
  | .undefFD _ | .activeSensing _ | .systemReset _ => .decode
  | .expMisc _ _ _ _ | .expCableEvent _ _ _ _ | .expSyscom2 _ _ _ _ | .expSyscom3 _ _ _ _
  | .expSysex _ _ _ _ | .expSingleOrSxend1 _ _ _ _ | .expSxend2 _ _ _ _ | .expSxend3 _ _ _ _
  | .expNoteOff _ _ _ _ | .expNoteOn _ _ _ _ | .expPolyPressure _ _ _ _ | .expControlChange _ _ _ _
  | .expProgramChange _ _ _ _ | .expChannelPressure _ _ _ _ | .expPitchBend _ _ _ _
  | .expSingleByte _ _ _ _ => .expand
  | .parseEvent _ | .parseGoodbye _ | .parseOther _ => .parse
  | .hexEncode _ => .hexEncode
  | .hexDecode _ => .hexDecode
  | .buildHello _ _ => .buildHello
  | .buildEvent _ => .buildEvent
  | .buildGoodbye => .buildGoodbye
  | .reset _ => .reset

end Sys2Proof
end

