-- ==== Sys2Proof/WellFormed.lean ====
section
/-!
DEFINITION. When an instruction is one the engine can be given: the decoder instance it names exists
(10_state.md R39), and a PARSE_OTHER datagram matches neither prefix (43_wire_protocol.md R264). Every
other operand is any value of its type (44_common_laws.md R284).
-/

namespace Sys2Proof

open Sys2Proof.Machine

/-- The decoder instance an instruction names, if it is a DECODE row. -/
def Instr.decoderIndex : Instr → Option Nat
  | .data i _ | .noteOff i _ | .noteOn i _ | .polyPressure i _ | .controlChange i _
  | .programChange i _ | .channelPressure i _ | .pitchBend i _
  | .sysexStart i | .mtcQuarterFrame i | .songPosition i | .songSelect i | .undefF4 i | .undefF5 i
  | .tuneRequest i | .sysexEnd i | .timingClock i | .undefF9 i | .start i | .continue_ i | .stop i
  | .undefFD i | .activeSensing i | .systemReset i => some i
  | .expMisc _ _ _ _ | .expCableEvent _ _ _ _ | .expSyscom2 _ _ _ _ | .expSyscom3 _ _ _ _
  | .expSysex _ _ _ _ | .expSingleOrSxend1 _ _ _ _ | .expSxend2 _ _ _ _ | .expSxend3 _ _ _ _
  | .expNoteOff _ _ _ _ | .expNoteOn _ _ _ _ | .expPolyPressure _ _ _ _ | .expControlChange _ _ _ _
  | .expProgramChange _ _ _ _ | .expChannelPressure _ _ _ _ | .expPitchBend _ _ _ _
  | .expSingleByte _ _ _ _
  | .parseEvent _ | .parseGoodbye _ | .parseOther _ | .hexEncode _ | .hexDecode _ | .buildHello _ _
  | .buildEvent _ | .buildGoodbye | .reset _ => none

/-- The named instance is one of the `n` instances the engine holds. -/
def Instr.instanceOk (n : Nat) (x : Instr) : Bool :=
  match x with
  | .reset (.one i) => decide (i < n)
  | _ => match x.decoderIndex with
    | some i => decide (i < n)
    | none => true

/-- A PARSE_OTHER datagram matches neither prefix (R264). -/
def Instr.rowOk (c : Config) : Instr → Bool
  | .parseOther d => !matchPrefix d (eventPrefix c.app) && !matchPrefix d (byePrefix c.app)
  | _ => true

/-- Well-formed for an engine of configuration `c` with `n` decoder instances. -/
def Instr.wf (c : Config) (n : Nat) (x : Instr) : Bool := x.instanceOk n && x.rowOk c

end Sys2Proof
end

