-- ==== Sys2Proof/Decode.lean ====
section
/-!
DEFINITION. From a transaction to its opcode row and back. `decode` is total: every stream byte, every
packet and every datagram matches exactly one row (30_encoding.md R102). A word of a width that no port
takes is rejected by name. `encode` writes the transaction of an instruction from the same tables.
-/

namespace Sys2Proof

open Sys2Proof.Machine

/-- The row of a stream byte (R102, first part of the opcode map; R144 to R168). -/
def decodeStreamByte (i : Nat) (b : Byte) : Instr :=
  match highNibble b with
  | 0x8#4 => .noteOff i (lowNibble b)
  | 0x9#4 => .noteOn i (lowNibble b)
  | 0xA#4 => .polyPressure i (lowNibble b)
  | 0xB#4 => .controlChange i (lowNibble b)
  | 0xC#4 => .programChange i (lowNibble b)
  | 0xD#4 => .channelPressure i (lowNibble b)
  | 0xE#4 => .pitchBend i (lowNibble b)
  | 0xF#4 =>
    match lowNibble b with
    | 0x0#4 => .sysexStart i
    | 0x1#4 => .mtcQuarterFrame i
    | 0x2#4 => .songPosition i
    | 0x3#4 => .songSelect i
    | 0x4#4 => .undefF4 i
    | 0x5#4 => .undefF5 i
    | 0x6#4 => .tuneRequest i
    | 0x7#4 => .sysexEnd i
    | 0x8#4 => .timingClock i
    | 0x9#4 => .undefF9 i
    | 0xA#4 => .start i
    | 0xB#4 => .continue_ i
    | 0xC#4 => .stop i
    | 0xD#4 => .undefFD i
    | 0xE#4 => .activeSensing i
    | _ => .systemReset i
  | _ => .data i (b.extractLsb' 0 7)

/-- The row of a packet, by its CIN (R102, second part; R202 to R217). -/
def decodePacket (p : Packet) : Instr :=
  let cn := cableOfPacket p
  match cinOfPacket p with
  | 0x0#4 => .expMisc cn (lane0 p) (lane1 p) (lane2 p)
  | 0x1#4 => .expCableEvent cn (lane0 p) (lane1 p) (lane2 p)
  | 0x2#4 => .expSyscom2 cn (lane0 p) (lane1 p) (lane2 p)
  | 0x3#4 => .expSyscom3 cn (lane0 p) (lane1 p) (lane2 p)
  | 0x4#4 => .expSysex cn (lane0 p) (lane1 p) (lane2 p)
  | 0x5#4 => .expSingleOrSxend1 cn (lane0 p) (lane1 p) (lane2 p)
  | 0x6#4 => .expSxend2 cn (lane0 p) (lane1 p) (lane2 p)
  | 0x7#4 => .expSxend3 cn (lane0 p) (lane1 p) (lane2 p)
  | 0x8#4 => .expNoteOff cn (lane0 p) (lane1 p) (lane2 p)
  | 0x9#4 => .expNoteOn cn (lane0 p) (lane1 p) (lane2 p)
  | 0xA#4 => .expPolyPressure cn (lane0 p) (lane1 p) (lane2 p)
  | 0xB#4 => .expControlChange cn (lane0 p) (lane1 p) (lane2 p)
  | 0xC#4 => .expProgramChange cn (lane0 p) (lane1 p) (lane2 p)
  | 0xD#4 => .expChannelPressure cn (lane0 p) (lane1 p) (lane2 p)
  | 0xE#4 => .expPitchBend cn (lane0 p) (lane1 p) (lane2 p)
  | _ => .expSingleByte cn (lane0 p) (lane1 p) (lane2 p)

/-- The row of a datagram, tested "in a fixed order (event, then goodbye)" (43_wire_protocol.md R260). -/
def decodeDatagram (c : Config) (d : ByteString) : Instr :=
  if matchPrefix d (eventPrefix c.app) then .parseEvent (d.drop (eventPrefix c.app).length)
  else if matchPrefix d (byePrefix c.app) then .parseGoodbye (d.drop (byePrefix c.app).length)
  else .parseOther d

/-- The instruction of a transaction: the port selects the unit, the operand the row (R102). -/
def decode (c : Config) : Request → Instr
  | .decode i b => decodeStreamByte i b
  | .expand p => decodePacket p
  | .hexEncode v => .hexEncode v
  | .hexDecode s => .hexDecode s
  | .buildHello port name => .buildHello port name
  | .buildEvent p => .buildEvent p
  | .buildGoodbye => .buildGoodbye
  | .parse d => decodeDatagram c d
  | .reset t => .reset t

/-- Why a raw word is no transaction. -/
inductive DecodeReject where
  /-- No port of the engine takes an operand of this many bits (20_memory.md R67). Safe: nothing runs. -/
  | noPortOfWidth (nbits : Nat)
  deriving DecidableEq, Repr

/-- The transaction whose operand is a raw word: 8 bits are a stream byte on instance 0, 32 bits a packet
(log 11). The datagram and port-selected rows have no word. -/
def requestOfWord (nbits w : Nat) : Except DecodeReject Request :=
  if nbits = 8 then .ok (.decode 0 (BitVec.ofNat 8 w))
  else if nbits = 32 then .ok (.expand (BitVec.ofNat 32 w))
  else .error (.noPortOfWidth nbits)

/-- The instruction of a raw word. Neither format that has words reads the configuration. -/
def decodeWord (nbits w : Nat) : Except DecodeReject Instr :=
  (requestOfWord nbits w).map (decode Config.reference)

/-- The host's entry: the instruction the decoder reads from a table row's word, if it is one. -/
def decodeTableWord (nbits w : Nat) : Option Instr := (decodeWord nbits w).toOption

/-! The encoder -/

/-- The transaction that presents an instruction, from the same tables as `decode`. -/
def encode (c : Config) : Instr → Request
  | .data i d => .decode i (dataByteOf d)
  | .noteOff i ch => .decode i (voiceStatus 0x8 ch)
  | .noteOn i ch => .decode i (voiceStatus 0x9 ch)
  | .polyPressure i ch => .decode i (voiceStatus 0xA ch)
  | .controlChange i ch => .decode i (voiceStatus 0xB ch)
  | .programChange i ch => .decode i (voiceStatus 0xC ch)
  | .channelPressure i ch => .decode i (voiceStatus 0xD ch)
  | .pitchBend i ch => .decode i (voiceStatus 0xE ch)
  | .sysexStart i => .decode i 0xF0
  | .mtcQuarterFrame i => .decode i 0xF1
  | .songPosition i => .decode i 0xF2
  | .songSelect i => .decode i 0xF3
  | .undefF4 i => .decode i 0xF4
  | .undefF5 i => .decode i 0xF5
  | .tuneRequest i => .decode i 0xF6
  | .sysexEnd i => .decode i 0xF7
  | .timingClock i => .decode i 0xF8
  | .undefF9 i => .decode i 0xF9
  | .start i => .decode i 0xFA
  | .continue_ i => .decode i 0xFB
  | .stop i => .decode i 0xFC
  | .undefFD i => .decode i 0xFD
  | .activeSensing i => .decode i 0xFE
  | .systemReset i => .decode i 0xFF
  | .expMisc cn p0 p1 p2 => .expand (packetOf cn 0x0 p0 p1 p2)
  | .expCableEvent cn p0 p1 p2 => .expand (packetOf cn 0x1 p0 p1 p2)
  | .expSyscom2 cn p0 p1 p2 => .expand (packetOf cn 0x2 p0 p1 p2)
  | .expSyscom3 cn p0 p1 p2 => .expand (packetOf cn 0x3 p0 p1 p2)
  | .expSysex cn p0 p1 p2 => .expand (packetOf cn 0x4 p0 p1 p2)
  | .expSingleOrSxend1 cn p0 p1 p2 => .expand (packetOf cn 0x5 p0 p1 p2)
  | .expSxend2 cn p0 p1 p2 => .expand (packetOf cn 0x6 p0 p1 p2)
  | .expSxend3 cn p0 p1 p2 => .expand (packetOf cn 0x7 p0 p1 p2)
  | .expNoteOff cn p0 p1 p2 => .expand (packetOf cn 0x8 p0 p1 p2)
  | .expNoteOn cn p0 p1 p2 => .expand (packetOf cn 0x9 p0 p1 p2)
  | .expPolyPressure cn p0 p1 p2 => .expand (packetOf cn 0xA p0 p1 p2)
  | .expControlChange cn p0 p1 p2 => .expand (packetOf cn 0xB p0 p1 p2)
  | .expProgramChange cn p0 p1 p2 => .expand (packetOf cn 0xC p0 p1 p2)
  | .expChannelPressure cn p0 p1 p2 => .expand (packetOf cn 0xD p0 p1 p2)
  | .expPitchBend cn p0 p1 p2 => .expand (packetOf cn 0xE p0 p1 p2)
  | .expSingleByte cn p0 p1 p2 => .expand (packetOf cn 0xF p0 p1 p2)
  | .parseEvent payload => .parse (eventPrefix c.app ++ payload)
  | .parseGoodbye rest => .parse (byePrefix c.app ++ rest)
  | .parseOther d => .parse d
  | .hexEncode v => .hexEncode v
  | .hexDecode s => .hexDecode s
  | .buildHello port name => .buildHello port name
  | .buildEvent p => .buildEvent p
  | .buildGoodbye => .buildGoodbye
  | .reset t => .reset t

end Sys2Proof
end

