-- ==== Sys2Proof/Machine/Flags.lean ====
section
/-!
DEFINITION. The engine's only flag, `SX` (10_state.md R41): what each class of stream byte makes of it.
-/

namespace Sys2Proof.Machine

/-- `SX` after a stream byte of a class (R36, R41): set by the sysex start, cleared by the sysex end and
by any other non-real-time status, unchanged by real-time and data bytes. -/
def sxAfter (c : ByteClass) (sx : Bool) : Bool :=
  match c with
  | .sxStart => true
  | .sxEnd => false
  | .status => false
  | .rt => sx
  | .data => sx

end Sys2Proof.Machine
end

