-- ==== Sys2Proof/Machine/State.lean ====
section
/-!
DEFINITION. The state of the engine (10_state.md) as plain data, its value at reset (R38,
70_reset_and_hazards.md R341), what the operations return, and the reasons a step can stop.
-/

namespace Sys2Proof.Machine

/-- The decoder registers of one instance (R32 to R36). -/
structure Decoder where
  /-- `RS`, the running status; 0x00 means none (R32). -/
  rs : Byte
  /-- `BUF[0]` (R33). -/
  buf0 : Byte
  /-- `BUF[1]` (R33). -/
  buf1 : Byte
  /-- `N`, the accumulated-byte count (R34). -/
  n : BitVec 2
  /-- `EXP`, the expected data-byte count of the status in `RS` (R35). -/
  exp : BitVec 2
  /-- `SX`, the system-exclusive-in-progress flag (R36). -/
  sx : Bool
  deriving DecidableEq, Repr

/-- R38: the reset values of one decoder instance. -/
def Decoder.reset : Decoder where
  rs := 0x00
  buf0 := 0x00
  buf1 := 0x00
  n := 0
  exp := 0
  sx := false

/-- A parsed datagram (R46; 43_wire_protocol.md R260). There is no Hello result (R264). -/
inductive ParseResult where
  /-- `EVENT(P)`. -/
  | event (p : Packet)
  /-- `GOODBYE`. -/
  | goodbye
  /-- `IGNORE`. -/
  | ignore
  deriving DecidableEq, Repr

/-- A datagram message to build (R46). -/
inductive Message where
  /-- `Hello(local-port-name, local-udp-source-port)`. -/
  | hello (name : ByteString) (port : BitVec 16)
  /-- `Event(event packet)`. -/
  | event (p : Packet)
  /-- `Goodbye`. -/
  | goodbye
  deriving DecidableEq, Repr

/-- What an operation returns on its port (00_scope.md R14, 20_memory.md R67). -/
inductive Output where
  /-- DECODE: one packet or no packet (40_stream_decoder.md R140). -/
  | packet (p : Option Packet)
  /-- EXPAND: the count and the three output lanes (41_packet_expander.md R200). -/
  | expanded (count : BitVec 2) (out0 out1 out2 : Byte)
  /-- HEX_ENCODE: eight characters (42_hex_codec.md R230). -/
  | hexString (c : ByteString)
  /-- HEX_DECODE: the success bit and the value (R232). -/
  | hexValue (ok : Bool) (v : Word)
  /-- BUILD_HELLO: `OK(D)`, or `none` for FAIL (43_wire_protocol.md R250, R251). -/
  | hello (d : Option ByteString)
  /-- BUILD_EVENT and BUILD_GOODBYE: the datagram (R252, R253). -/
  | datagram (d : ByteString)
  /-- PARSE: the result (R260). -/
  | parsed (r : ParseResult)
  /-- RESET returns nothing (60_exceptions.md R320); the operation is complete. -/
  | resetDone
  deriving DecidableEq, Repr

/-- The engine: its configuration, its decoder instances, and its ports. -/
structure State where
  /-- The configuration registers (R40). No operation writes them. -/
  cfg : Config
  /-- The decoder instances, `N_INSTANCES` of them (R39). -/
  decoders : List Decoder
  /-- The MODEL's own field: the transactions the host has still to present, the next one first
  (20_memory.md R69; log 3). It is the host's, no queue of the engine (00_scope.md R6). -/
  requests : List Request
  /-- The MODEL's own field: the result on the output port of the most recent operation, `none` before
  the first one (log 4). The next operation replaces it (70_reset_and_hazards.md R347). -/
  out : Option Output
  deriving DecidableEq, Repr

/-- The machine right after reset: one decoder instance in the reset state of R38, the reference
configuration (not reset by R341; log 1, log 2), nothing presented and nothing returned (log 3, log 4). -/
def State.reset : State where
  cfg := Config.reference
  decoders := [Decoder.reset]
  requests := []
  out := none

/-- The engine raises no exception, trap or fault (60_exceptions.md R300), so no fault has a name. -/
inductive Fault
  deriving DecidableEq, Repr

/-- Why the model gives a transaction no next state. -/
inductive Refusal where
  /-- An instruction whose meaning is not written yet; raised by exec's arm. Safe: nothing runs. -/
  | notModelled (mnemonic : String)
  /-- The configuration is not valid: "A field set to an illegal value makes the configuration invalid,
  and a model refuses it" (R40; I16). Raised by every operation. Safe: the spec has no rule here. -/
  | configInvalid
  /-- The named decoder instance breaks the invariants of R37: "a model refuses a start state that does
  not" meet them (I15). Raised by the DECODE rows. Safe: the spec has no rule here. -/
  | decoderStateIllegal
  /-- The transaction names an instance the engine does not hold (R39; log 7). Raised by the DECODE rows
  and RESET. Safe: the spec has no rule here. -/
  | noSuchInstance (i : Nat)
  deriving DecidableEq, Repr

/-- What a step answers. -/
abbrev Result := Host.Outcome State Fault Refusal

end Sys2Proof.Machine
end

