-- ==== Sys2Proof/Machine/Ops.lean ====
section
/-!
DEFINITION. The operations every meaning is written with: when a configuration and a decoder state are
legal (10_state.md R40, R37), the buffer of a decoder instance, and the two shapes of a transaction: one
that reads no decoder state (00_scope.md R14) and one that steps a named decoder instance. The engine has
no memory (20_memory.md R60) and takes no exception (60_exceptions.md R300, R306, R307), so there is no
operation for either.
-/

namespace Sys2Proof.Machine

/-- A legal configuration (R40, I16): APP is not empty and holds no 0x00, and EVENT_PAD is 3 or 4. CABLE
and HEX_UPPER have no illegal value of their type. -/
def configValid (c : Config) : Bool :=
  !c.app.isEmpty && c.app.all (· != 0x00) && (c.eventPad == 3 || c.eventPad == 4)

/-- The engine is configured: the registers are legal and there is at least one decoder instance
(00_scope.md R9, 70_reset_and_hazards.md R342). -/
def State.configOk (s : State) : Bool := configValid s.cfg && !s.decoders.isEmpty

/-- R37: `N` and `EXP` are 0, 1 or 2. -/
def Decoder.countsOk (d : Decoder) : Bool := d.n != 3 && d.exp != 3

/-- R37: `BUF[k] = 0x00` for every k with `N ≤ k ≤ 1`. -/
def Decoder.tailZero (d : Decoder) : Bool :=
  (d.n != 0 || d.buf0 == 0x00) && ((d.n != 0 && d.n != 1) || d.buf1 == 0x00)

/-- R37: `EXP = EXP_OF(RS)`; with it `RS` is one of the values the table has a row for (R32). -/
def Decoder.expMatches (d : Decoder) : Bool := expOf d.rs == some d.exp

/-- R37: `SX = 1` exactly when `RS = 0xF0`. -/
def Decoder.sxMatches (d : Decoder) : Bool := d.sx == (d.rs == 0xF0)

/-- R37: while `SX = 1`, `BUF[0..N)` are unflushed sysex bytes: data bytes, the first perhaps the start
byte 0xF0 (R33; log 6). -/
def Decoder.sysexBytes (d : Decoder) : Bool :=
  !d.sx || ((d.n == 0 || d.buf0 == 0xF0 || classOf d.buf0 == .data)
    && (d.n != 2 || classOf d.buf1 == .data))

/-- R37: outside sysex, `N < EXP` or `N = 0`. -/
def Decoder.partialFits (d : Decoder) : Bool := d.sx || d.n == 0 || decide (d.n < d.exp)

/-- R37: `RS = 0x00` implies `N = 0`, `EXP = 0` and `SX = 0`. -/
def Decoder.idleClear (d : Decoder) : Bool := d.rs != 0x00 || (d.n == 0 && d.exp == 0 && !d.sx)

/-- R37: the invariants of a reachable decoder state. The decoder rules are written for these alone, and
"a model refuses a start state that does not" meet them. -/
def Decoder.legal (d : Decoder) : Bool :=
  d.countsOk && d.tailZero && d.expMatches && d.sxMatches && d.sysexBytes && d.partialFits
    && d.idleClear

/-- `BUF[0] <- 0x00 ; BUF[1] <- 0x00 ; N <- 0` (40_stream_decoder.md R144). -/
def Decoder.clearBuf (d : Decoder) : Decoder := { d with buf0 := 0x00, buf1 := 0x00, n := 0 }

/-- `BUF[N] <- b ; N <- N + 1` (R144), for N below 2. -/
def Decoder.push (d : Decoder) (b : Byte) : Decoder :=
  { d with
    buf0 := if d.n = 0 then b else d.buf0
    buf1 := if d.n = 1 then b else d.buf1
    n := d.n + 1 }

/-- Instance `i` holds the registers `d`; every other instance is as before (R39). -/
def State.setDecoder (s : State) (i : Nat) (d : Decoder) : State :=
  { s with decoders := s.decoders.set i d }

/-- Every instance holds the registers `d`. -/
def State.setAllDecoders (s : State) (d : Decoder) : State :=
  { s with decoders := s.decoders.map (fun _ => d) }

/-- The transaction is complete: its result is on the output port, and the host's next transaction is the
one to present (00_scope.md R12, 20_memory.md R69). -/
def State.finish (s : State) (o : Output) : State :=
  { s with requests := s.requests.drop 1, out := some o }

/-- A transaction runs only under a valid configuration (70_reset_and_hazards.md R342). -/
def configured (s : State) (r : Result) : Result :=
  if s.configOk then r else .refused .configInvalid

/-- An operation that is a pure function of its input and the configuration (R14): it returns `o` and
reads and writes no decoder state. -/
def pureOp (s : State) (o : Output) : Result := configured s (.next (s.finish o))

/-- A DECODE of instance `i` (40_stream_decoder.md R140): `f` gives the instance's registers at the end
and the packet emitted, both from the registers at the start (R12). -/
def decodeOp (i : Nat) (f : Decoder → Decoder × Option Packet) (s : State) : Result :=
  configured s <|
    match s.decoders[i]? with
    | none => .refused (.noSuchInstance i)
    | some d =>
      if d.legal then .next ((s.setDecoder i (f d).1).finish (.packet (f d).2))
      else .refused .decoderStateIllegal

end Sys2Proof.Machine
end

