-- ==== Sys2Proof/Machine/PacketExpander.lean ====
section
/-!
DEFINITION. The PacketExpander (41_packet_expander.md): the common pseudocode of R201 and the meaning of
each of the 16 EXPAND rows, one per code index number.
-/

namespace Sys2Proof.Machine

/-- One output lane of R201: lane k of the packet where k is below the count, 0x00 otherwise (D20). -/
def laneOut (count : BitVec 2) (k : Nat) (p : Byte) : Byte := if k < count.toNat then p else 0x00

/-- `EXPAND(P)` as R201 writes it, for the fields of P: the count of the CIN and the lanes it covers. The
lanes are copied without any check (R219). -/
def expandLanes (cin : Nibble) (p0 p1 p2 : Byte) : Output :=
  .expanded (cinLen cin) (laneOut (cinLen cin) 0 p0) (laneOut (cinLen cin) 1 p1)
    (laneOut (cinLen cin) 2 p2)

/-- An EXPAND of a packet with this CIN. The cable nibble is not read (R218). -/
def expandOp (cin : Nibble) (_cn : Nibble) (p0 p1 p2 : Byte) (s : State) : Result :=
  pureOp s (expandLanes cin p0 p1 p2)

/-- EXP_MISC (R202). -/
def execExpMisc (cn : Nibble) (p0 p1 p2 : Byte) (s : State) : Result :=
  expandOp 0x0 cn p0 p1 p2 s

/-- EXP_CABLE_EVENT (R203). -/
def execExpCableEvent (cn : Nibble) (p0 p1 p2 : Byte) (s : State) : Result :=
  expandOp 0x1 cn p0 p1 p2 s

/-- EXP_SYSCOM2 (R204). -/
def execExpSyscom2 (cn : Nibble) (p0 p1 p2 : Byte) (s : State) : Result :=
  expandOp 0x2 cn p0 p1 p2 s

/-- EXP_SYSCOM3 (R205). -/
def execExpSyscom3 (cn : Nibble) (p0 p1 p2 : Byte) (s : State) : Result :=
  expandOp 0x3 cn p0 p1 p2 s

/-- EXP_SYSEX (R206). -/
def execExpSysex (cn : Nibble) (p0 p1 p2 : Byte) (s : State) : Result :=
  expandOp 0x4 cn p0 p1 p2 s

/-- EXP_SINGLE_OR_SXEND1 (R207). -/
def execExpSingleOrSxend1 (cn : Nibble) (p0 p1 p2 : Byte) (s : State) : Result :=
  expandOp 0x5 cn p0 p1 p2 s

/-- EXP_SXEND2 (R208). -/
def execExpSxend2 (cn : Nibble) (p0 p1 p2 : Byte) (s : State) : Result :=
  expandOp 0x6 cn p0 p1 p2 s

/-- EXP_SXEND3 (R209). -/
def execExpSxend3 (cn : Nibble) (p0 p1 p2 : Byte) (s : State) : Result :=
  expandOp 0x7 cn p0 p1 p2 s

/-- EXP_NOTE_OFF (R210). -/
def execExpNoteOff (cn : Nibble) (p0 p1 p2 : Byte) (s : State) : Result :=
  expandOp 0x8 cn p0 p1 p2 s

/-- EXP_NOTE_ON (R211). -/
def execExpNoteOn (cn : Nibble) (p0 p1 p2 : Byte) (s : State) : Result :=
  expandOp 0x9 cn p0 p1 p2 s

/-- EXP_POLY_PRESSURE (R212). -/
def execExpPolyPressure (cn : Nibble) (p0 p1 p2 : Byte) (s : State) : Result :=
  expandOp 0xA cn p0 p1 p2 s

/-- EXP_CONTROL_CHANGE (R213). -/
def execExpControlChange (cn : Nibble) (p0 p1 p2 : Byte) (s : State) : Result :=
  expandOp 0xB cn p0 p1 p2 s

/-- EXP_PROGRAM_CHANGE (R214). -/
def execExpProgramChange (cn : Nibble) (p0 p1 p2 : Byte) (s : State) : Result :=
  expandOp 0xC cn p0 p1 p2 s

/-- EXP_CHANNEL_PRESSURE (R215). -/
def execExpChannelPressure (cn : Nibble) (p0 p1 p2 : Byte) (s : State) : Result :=
  expandOp 0xD cn p0 p1 p2 s

/-- EXP_PITCH_BEND (R216). -/
def execExpPitchBend (cn : Nibble) (p0 p1 p2 : Byte) (s : State) : Result :=
  expandOp 0xE cn p0 p1 p2 s

/-- EXP_SINGLE_BYTE (R217). -/
def execExpSingleByte (cn : Nibble) (p0 p1 p2 : Byte) (s : State) : Result :=
  expandOp 0xF cn p0 p1 p2 s

end Sys2Proof.Machine
end

