-- ==== Sys2Proof/Machine/StreamDecoder.lean ====
section
/-!
DEFINITION. The StreamDecoder (40_stream_decoder.md): the five procedures of R143 to R145, R153 and R160,
the dispatch pseudocode of R141, and the meaning of each of the 24 DECODE rows.
-/

namespace Sys2Proof.Machine

/-- `STATUS_ARRIVAL(b)` (R143), for a non-real-time status other than 0xF0 and 0xF7. Every such byte has
a row in the status table; a byte without one has no rule and changes nothing. -/
def statusArrival (cable : Nibble) (b : Byte) (d : Decoder) : Decoder × Option Packet :=
  match expOf b with
  | none => (d, none)
  | some e =>
    ({ rs := b, buf0 := 0x00, buf1 := 0x00, n := 0, exp := e, sx := sxAfter .status d.sx },
      if e = 0 then (cinOf b).map (fun c => mkPacket cable c b 0x00 0x00) else none)

/-- `DATA_BYTE(b)` (R144). -/
def dataByte (cable : Nibble) (b : Byte) (d : Decoder) : Decoder × Option Packet :=
  if d.sx then
    if d.n < 2 then (d.push b, none)
    else (d.clearBuf, some (mkPacket cable 0x4 d.buf0 d.buf1 b))
  else if d.rs = 0x00 then (d, none)
  else if d.exp = 0 then (d, none)
  else if d.n + 1 = d.exp then
    (d.clearBuf,
      if d.exp = 1 then (cinOf d.rs).map (fun c => mkPacket cable c d.rs b 0x00)
      else (cinOf d.rs).map (fun c => mkPacket cable c d.rs d.buf0 b))
  else (d.push b, none)

/-- `RT_BYTE(b)` (R145): no register is written. -/
def rtByte (cable : Nibble) (b : Byte) (d : Decoder) : Decoder × Option Packet :=
  ({ d with sx := sxAfter .rt d.sx }, some (mkPacket cable 0xF b 0x00 0x00))

/-- `SX_START()` (R153): 0xF0 is buffered, and no packet comes now. -/
def sxStart (d : Decoder) : Decoder × Option Packet :=
  ({ rs := 0xF0, buf0 := 0xF0, buf1 := 0x00, n := 1, exp := 0, sx := sxAfter .sxStart d.sx }, none)

/-- `SX_END()` (R160): the end packet of a sysex, or nothing for a stray end marker; the registers are
cleared to their reset values either way. -/
def sxEnd (cable : Nibble) (d : Decoder) : Decoder × Option Packet :=
  ({ rs := 0x00, buf0 := 0x00, buf1 := 0x00, n := 0, exp := 0, sx := sxAfter .sxEnd d.sx },
    if d.sx then
      if d.n = 0 then some (mkPacket cable 0x5 0xF7 0x00 0x00)
      else if d.n = 1 then some (mkPacket cable 0x6 d.buf0 0xF7 0x00)
      else some (mkPacket cable 0x7 d.buf0 d.buf1 0xF7)
    else none)

/-- `DECODE(i, b)` as R141 writes it, over the registers of the instance: the class, then its procedure.
The machine runs the rows below; that they agree with this is a statement. -/
def decodeByte (cable : Nibble) (b : Byte) (d : Decoder) : Decoder × Option Packet :=
  match classOf b with
  | .rt => rtByte cable b d
  | .sxEnd => sxEnd cable d
  | .sxStart => sxStart d
  | .status => statusArrival cable b d
  | .data => dataByte cable b d

/-- DATA (R144). -/
def execData (i : Nat) (v : BitVec 7) (s : State) : Result :=
  decodeOp i (dataByte s.cfg.cable (dataByteOf v)) s

/-- NOTE_OFF (R146). -/
def execNoteOff (i : Nat) (ch : Nibble) (s : State) : Result :=
  decodeOp i (statusArrival s.cfg.cable (voiceStatus 0x8 ch)) s

/-- NOTE_ON (R147). -/
def execNoteOn (i : Nat) (ch : Nibble) (s : State) : Result :=
  decodeOp i (statusArrival s.cfg.cable (voiceStatus 0x9 ch)) s

/-- POLY_PRESSURE (R148). -/
def execPolyPressure (i : Nat) (ch : Nibble) (s : State) : Result :=
  decodeOp i (statusArrival s.cfg.cable (voiceStatus 0xA ch)) s

/-- CONTROL_CHANGE (R149). -/
def execControlChange (i : Nat) (ch : Nibble) (s : State) : Result :=
  decodeOp i (statusArrival s.cfg.cable (voiceStatus 0xB ch)) s

/-- PROGRAM_CHANGE (R150). -/
def execProgramChange (i : Nat) (ch : Nibble) (s : State) : Result :=
  decodeOp i (statusArrival s.cfg.cable (voiceStatus 0xC ch)) s

/-- CHANNEL_PRESSURE (R151). -/
def execChannelPressure (i : Nat) (ch : Nibble) (s : State) : Result :=
  decodeOp i (statusArrival s.cfg.cable (voiceStatus 0xD ch)) s

/-- PITCH_BEND (R152). -/
def execPitchBend (i : Nat) (ch : Nibble) (s : State) : Result :=
  decodeOp i (statusArrival s.cfg.cable (voiceStatus 0xE ch)) s

/-- SYSEX_START (R153). -/
def execSysexStart (i : Nat) (s : State) : Result := decodeOp i sxStart s

/-- MTC_QUARTER_FRAME (R154). -/
def execMtcQuarterFrame (i : Nat) (s : State) : Result :=
  decodeOp i (statusArrival s.cfg.cable 0xF1) s

/-- SONG_POSITION (R155). -/
def execSongPosition (i : Nat) (s : State) : Result :=
  decodeOp i (statusArrival s.cfg.cable 0xF2) s

/-- SONG_SELECT (R156). -/
def execSongSelect (i : Nat) (s : State) : Result :=
  decodeOp i (statusArrival s.cfg.cable 0xF3) s

/-- UNDEF_F4 (R157, D13). -/
def execUndefF4 (i : Nat) (s : State) : Result :=
  decodeOp i (statusArrival s.cfg.cable 0xF4) s

/-- UNDEF_F5 (R158, D13). -/
def execUndefF5 (i : Nat) (s : State) : Result :=
  decodeOp i (statusArrival s.cfg.cable 0xF5) s

/-- TUNE_REQUEST (R159, 90_conflicts.md C1). -/
def execTuneRequest (i : Nat) (s : State) : Result :=
  decodeOp i (statusArrival s.cfg.cable 0xF6) s

/-- SYSEX_END (R160, 90_conflicts.md C7). -/
def execSysexEnd (i : Nat) (s : State) : Result := decodeOp i (sxEnd s.cfg.cable) s

/-- TIMING_CLOCK (R161). -/
def execTimingClock (i : Nat) (s : State) : Result := decodeOp i (rtByte s.cfg.cable 0xF8) s

/-- UNDEF_F9 (R162, D19). -/
def execUndefF9 (i : Nat) (s : State) : Result := decodeOp i (rtByte s.cfg.cable 0xF9) s

/-- START (R163). -/
def execStart (i : Nat) (s : State) : Result := decodeOp i (rtByte s.cfg.cable 0xFA) s

/-- CONTINUE (R164). -/
def execContinue (i : Nat) (s : State) : Result := decodeOp i (rtByte s.cfg.cable 0xFB) s

/-- STOP (R165). -/
def execStop (i : Nat) (s : State) : Result := decodeOp i (rtByte s.cfg.cable 0xFC) s

/-- UNDEF_FD (R166, D19). -/
def execUndefFD (i : Nat) (s : State) : Result := decodeOp i (rtByte s.cfg.cable 0xFD) s

/-- ACTIVE_SENSING (R167): no timeout goes with it. -/
def execActiveSensing (i : Nat) (s : State) : Result := decodeOp i (rtByte s.cfg.cable 0xFE) s

/-- SYSTEM_RESET (R168): a packet only; the decoder is not reset. -/
def execSystemReset (i : Nat) (s : State) : Result := decodeOp i (rtByte s.cfg.cable 0xFF) s

end Sys2Proof.Machine
end

