-- ==== Sys2Proof/Machine/System.lean ====
section
/-!
DEFINITION. The one system operation, RESET (70_reset_and_hazards.md R340, 44_common_laws.md R283).
-/

namespace Sys2Proof.Machine

/-- RESET (R340): the named instance, or every instance, holds the reset values of R38. It may be issued
at any time (D34) and writes every register, so it runs from any decoder state (log 6). -/
def execReset (t : ResetTarget) (s : State) : Result :=
  configured s <|
    match t with
    | .all => .next ((s.setAllDecoders Decoder.reset).finish .resetDone)
    | .one i =>
      match s.decoders[i]? with
      | none => .refused (.noSuchInstance i)
      | some _ => .next ((s.setDecoder i Decoder.reset).finish .resetDone)

end Sys2Proof.Machine
end

