-- ==== Sys2Proof/Machine/HexCodec.lean ====
section
/-!
DEFINITION. The HexCodec (42_hex_codec.md): a 32-bit value as eight characters, most significant nibble
first, and back.
-/

namespace Sys2Proof.Machine

/-- `HEX_ENCODE(v)` (R230): character k is the digit of bits `v[31−4k : 28−4k]`. -/
def hexEncode (v : Word) : ByteString :=
  (List.range 8).map (fun k => hexDigit (v.extractLsb' (28 - 4 * k) 4))

/-- The loop of R232: `v = (v << 4) | nibble(s[k])`, ended by the first character that is not accepted. -/
def hexAccumulate (upper : Bool) (v : Word) : ByteString → Option Word
  | [] => some v
  | ch :: rest =>
    match nibbleOf upper ch with
    | none => none
    | some x => hexAccumulate upper (v <<< 4 ||| x.setWidth 32) rest

/-- `HEX_DECODE(s)` (R232): only the first eight bytes are read; `none` is a failure. -/
def hexDecode (upper : Bool) (s : ByteString) : Option Word :=
  if s.length < 8 then none else hexAccumulate upper 0 (s.take 8)

/-- HEX_ENCODE (R230). -/
def execHexEncode (v : Word) (s : State) : Result := pureOp s (.hexString (hexEncode v))

/-- HEX_DECODE (R232): `(1, v)`, or `(0, 0)` on failure. -/
def execHexDecode (str : ByteString) (s : State) : Result :=
  pureOp s <|
    match hexDecode s.cfg.hexUpper str with
    | some v => .hexValue true v
    | none => .hexValue false 0

end Sys2Proof.Machine
end

