-- ==== Sys2Proof/Machine/WireProtocol.lean ====
section
/-!
DEFINITION. The WireProtocol (43_wire_protocol.md): the serializer of the three datagrams, the parser, and
the meaning of each of its six rows.
-/

namespace Sys2Proof.Machine

/-- SC1 (R251): the name holds a 0x00 byte or is longer than NAME_MAX, where that is set. -/
def helloNameBad (c : Config) (name : ByteString) : Bool :=
  name.any (· == 0x00) ||
    match c.nameMax with
    | some m => decide (m < name.length)
    | none => false

/-- `BUILD_HELLO(port, name)` (R250); `none` is FAIL. -/
def buildHello (c : Config) (port : BitVec 16) (name : ByteString) : Option ByteString :=
  if helloNameBad c name then none
  else some (helloHeader c.app ++ portField port ++ nameField name)

/-- `BUILD_EVENT(P)` (R252). -/
def buildEvent (c : Config) (p : Packet) : ByteString :=
  eventPrefix c.app ++ hexEncode p ++ List.replicate c.eventPad.toNat 0x00

/-- `BUILD_GOODBYE` (R253). -/
def buildGoodbye (c : Config) : ByteString := byePrefix c.app

/-- The datagram of a message value (10_state.md R46). -/
def Message.serialize (c : Config) : Message → Option ByteString
  | .hello name port => buildHello c port name
  | .event p => some (buildEvent c p)
  | .goodbye => some (buildGoodbye c)

/-- PARSE after a match of EVENT_PREFIX (R262), on the bytes from `L + 12` on (log 14): fewer than 8 are a short
payload (PC2); then the hex decode decides (PC3). The bytes after the eight are not read (R265). -/
def parseEventPayload (upper : Bool) (payload : ByteString) : ParseResult :=
  if payload.length < 8 then .ignore
  else match hexDecode upper (payload.take 8) with
    | none => .ignore
    | some v => .event v

/-- `PARSE(D)` as R260 writes it, on the whole datagram. The machine decodes the row first and runs the
row's meaning; that they agree with this is a statement. -/
def parse (c : Config) (d : ByteString) : ParseResult :=
  if matchPrefix d (eventPrefix c.app) then
    if d.length < c.app.length + 12 + 8 then .ignore
    else match hexDecode c.hexUpper ((d.drop (c.app.length + 12)).take 8) with
      | none => .ignore
      | some v => .event v
  else if matchPrefix d (byePrefix c.app) then .goodbye
  else .ignore

/-- BUILD_HELLO (R250, R251). -/
def execBuildHello (port : BitVec 16) (name : ByteString) (s : State) : Result :=
  pureOp s (.hello (buildHello s.cfg port name))

/-- BUILD_EVENT (R252). -/
def execBuildEvent (p : Packet) (s : State) : Result := pureOp s (.datagram (buildEvent s.cfg p))

/-- BUILD_GOODBYE (R253). -/
def execBuildGoodbye (s : State) : Result := pureOp s (.datagram (buildGoodbye s.cfg))

/-- PARSE_EVENT (R262). -/
def execParseEvent (payload : ByteString) (s : State) : Result :=
  pureOp s (.parsed (parseEventPayload s.cfg.hexUpper payload))

/-- PARSE_GOODBYE (R263): the bytes after the prefix are not read. -/
def execParseGoodbye (_rest : ByteString) (s : State) : Result := pureOp s (.parsed .goodbye)

/-- PARSE_OTHER (R264): IGNORE, for a hello too (D24). -/
def execParseOther (_d : ByteString) (s : State) : Result := pureOp s (.parsed .ignore)

end Sys2Proof.Machine
end

