-- ==== Sys2Proof/Machine/Dispatch.lean ====
section
/-!
DEFINITION. One arm per row of spec/opcode_table.json, each the direct call of its meaning.
-/

namespace Sys2Proof.Machine

def exec (i : Instr) (s : State) : Host.Outcome State Fault Refusal :=
  match i with
  | .data k d => Sys2Proof.Machine.execData k d s
  | .noteOff k ch => Sys2Proof.Machine.execNoteOff k ch s
  | .noteOn k ch => Sys2Proof.Machine.execNoteOn k ch s
  | .polyPressure k ch => Sys2Proof.Machine.execPolyPressure k ch s
  | .controlChange k ch => Sys2Proof.Machine.execControlChange k ch s
  | .programChange k ch => Sys2Proof.Machine.execProgramChange k ch s
  | .channelPressure k ch => Sys2Proof.Machine.execChannelPressure k ch s
  | .pitchBend k ch => Sys2Proof.Machine.execPitchBend k ch s
  | .sysexStart k => Sys2Proof.Machine.execSysexStart k s
  | .mtcQuarterFrame k => Sys2Proof.Machine.execMtcQuarterFrame k s
  | .songPosition k => Sys2Proof.Machine.execSongPosition k s
  | .songSelect k => Sys2Proof.Machine.execSongSelect k s
  | .undefF4 k => Sys2Proof.Machine.execUndefF4 k s
  | .undefF5 k => Sys2Proof.Machine.execUndefF5 k s
  | .tuneRequest k => Sys2Proof.Machine.execTuneRequest k s
  | .sysexEnd k => Sys2Proof.Machine.execSysexEnd k s
  | .timingClock k => Sys2Proof.Machine.execTimingClock k s
  | .undefF9 k => Sys2Proof.Machine.execUndefF9 k s
  | .start k => Sys2Proof.Machine.execStart k s
  | .continue_ k => Sys2Proof.Machine.execContinue k s
  | .stop k => Sys2Proof.Machine.execStop k s
  | .undefFD k => Sys2Proof.Machine.execUndefFD k s
  | .activeSensing k => Sys2Proof.Machine.execActiveSensing k s
  | .systemReset k => Sys2Proof.Machine.execSystemReset k s
  | .expMisc cn p0 p1 p2 => Sys2Proof.Machine.execExpMisc cn p0 p1 p2 s
  | .expCableEvent cn p0 p1 p2 => Sys2Proof.Machine.execExpCableEvent cn p0 p1 p2 s
  | .expSyscom2 cn p0 p1 p2 => Sys2Proof.Machine.execExpSyscom2 cn p0 p1 p2 s
  | .expSyscom3 cn p0 p1 p2 => Sys2Proof.Machine.execExpSyscom3 cn p0 p1 p2 s
  | .expSysex cn p0 p1 p2 => Sys2Proof.Machine.execExpSysex cn p0 p1 p2 s
  | .expSingleOrSxend1 cn p0 p1 p2 => Sys2Proof.Machine.execExpSingleOrSxend1 cn p0 p1 p2 s
  | .expSxend2 cn p0 p1 p2 => Sys2Proof.Machine.execExpSxend2 cn p0 p1 p2 s
  | .expSxend3 cn p0 p1 p2 => Sys2Proof.Machine.execExpSxend3 cn p0 p1 p2 s
  | .expNoteOff cn p0 p1 p2 => Sys2Proof.Machine.execExpNoteOff cn p0 p1 p2 s
  | .expNoteOn cn p0 p1 p2 => Sys2Proof.Machine.execExpNoteOn cn p0 p1 p2 s
  | .expPolyPressure cn p0 p1 p2 => Sys2Proof.Machine.execExpPolyPressure cn p0 p1 p2 s
  | .expControlChange cn p0 p1 p2 => Sys2Proof.Machine.execExpControlChange cn p0 p1 p2 s
  | .expProgramChange cn p0 p1 p2 => Sys2Proof.Machine.execExpProgramChange cn p0 p1 p2 s
  | .expChannelPressure cn p0 p1 p2 => Sys2Proof.Machine.execExpChannelPressure cn p0 p1 p2 s
  | .expPitchBend cn p0 p1 p2 => Sys2Proof.Machine.execExpPitchBend cn p0 p1 p2 s
  | .expSingleByte cn p0 p1 p2 => Sys2Proof.Machine.execExpSingleByte cn p0 p1 p2 s
  | .parseEvent payload => Sys2Proof.Machine.execParseEvent payload s
  | .parseGoodbye rest => Sys2Proof.Machine.execParseGoodbye rest s
  | .parseOther d => Sys2Proof.Machine.execParseOther d s
  | .hexEncode v => Sys2Proof.Machine.execHexEncode v s
  | .hexDecode str => Sys2Proof.Machine.execHexDecode str s
  | .buildHello port name => Sys2Proof.Machine.execBuildHello port name s
  | .buildEvent p => Sys2Proof.Machine.execBuildEvent p s
  | .buildGoodbye => Sys2Proof.Machine.execBuildGoodbye s
  | .reset t => Sys2Proof.Machine.execReset t s

end Sys2Proof.Machine
end

