-- ==== Sys2Proof/Machine/Step.lean ====
section
/-!
DEFINITION. One step: the engine runs the transaction the host presents next, as one atomic operation
(20_memory.md R67, R69). With nothing presented it holds its state (60_exceptions.md R313; log 5).
-/

namespace Sys2Proof.Machine

/-- One step of the engine. -/
def step (s : State) : Host.Outcome State Fault Refusal :=
  match s.requests with
  | [] => .next s
  | r :: _ => exec (decode s.cfg r) s

/-- The host presents, as its next transaction, the one whose operand is this raw word; the transactions
it had still to present come after it. A word that no port takes changes nothing (log 11). -/
def State.withFetchWord (s : State) (nbits w : Nat) : State :=
  match requestOfWord nbits w with
  | .ok r => { s with requests := r :: s.requests }
  | .error _ => s

end Sys2Proof.Machine
end

