-- ==== Sys2Proof/Machine/Causes.lean ====
section
/-!
DEFINITION. The discard causes of 60_exceptions.md R301: for each operation, which of them its input and
the registers it starts from bring about. They are for the reader only and appear on no port (R302), so
they stand beside the machine and no step computes them.
-/

namespace Sys2Proof.Machine

/-- The names of R301. -/
inductive DiscardCause where
  /-- A data byte with no established running status. -/
  | dc1
  /-- A data byte after a status that takes none (D14). -/
  | dc2
  /-- A stray end marker (D15). -/
  | dc3
  /-- A partial message lost. -/
  | dc4
  /-- A sysex ended by another status, without an end packet (D16). -/
  | dc5
  /-- A sysex restarted (D17). -/
  | dc6
  /-- A reserved code index number. -/
  | xc1
  /-- A hex string that does not decode. -/
  | hc1
  /-- A datagram that matches neither prefix. -/
  | pc1
  /-- A short event payload. -/
  | pc2
  /-- An event payload that does not decode. -/
  | pc3
  /-- A hello name that is refused. -/
  | sc1
  deriving DecidableEq, Repr

/-- The causes of one DECODE of `b` (R301, the DC rows). -/
def decodeCauses (b : Byte) (d : Decoder) : List DiscardCause :=
  match classOf b with
  | .rt => []
  | .data =>
    if d.sx then []
    else if d.rs = 0x00 then [.dc1]
    else if d.exp = 0 then [.dc2]
    else []
  | .status => if d.sx then [.dc5] else if d.n = 0 then [] else [.dc4]
  | .sxStart => if d.sx then [.dc6] else if d.n = 0 then [] else [.dc4]
  | .sxEnd => if d.sx then [] else if d.n = 0 then [.dc3] else [.dc4, .dc3]

/-- The cause of one EXPAND (XC1). -/
def expandCauses (p : Packet) : List DiscardCause :=
  if cinOfPacket p = 0x0 ∨ cinOfPacket p = 0x1 then [.xc1] else []

/-- The cause of one HEX_DECODE (HC1). -/
def hexCauses (upper : Bool) (s : ByteString) : List DiscardCause :=
  if s.length < 8 ∨ (s.take 8).any (fun ch => (nibbleOf upper ch).isNone) then [.hc1] else []

/-- The cause of one PARSE (PC1 to PC3). -/
def parseCauses (c : Config) (d : ByteString) : List DiscardCause :=
  if matchPrefix d (eventPrefix c.app) then
    if d.length < c.app.length + 20 then [.pc2]
    else if (hexDecode c.hexUpper (d.drop (c.app.length + 12))).isNone then [.pc3] else []
  else if matchPrefix d (byePrefix c.app) then []
  else [.pc1]

/-- The cause of one BUILD_HELLO (SC1). -/
def helloCauses (c : Config) (name : ByteString) : List DiscardCause :=
  if helloNameBad c name then [.sc1] else []

end Sys2Proof.Machine
end

