-- ==== Sys2Proof/Machine/HostPaths.lean ====
section
/-!
DEFINITION. The host beside the engine: a transaction presented alone, the pseudo-operations of
30_encoding.md R105 (`decs`, `send`, `relay`), and the host of 60_exceptions.md R320 to R325 as far as the
spec describes it. None of it is engine state; every engine operation in it is a `step`.
-/

namespace Sys2Proof.Machine

/-- The host presents one transaction and the engine runs it. -/
def transact (s : State) (r : Request) : Result := step { s with requests := [r] }

/-- The host presents transactions one after another and takes each result before the next one (R347).
`none` where the engine refuses one. -/
def present : State → List Request → Option (State × List Output)
  | s, [] => some (s, [])
  | s, r :: rs =>
    match transact s r with
    | .next t => (present t rs).map (fun q => (q.1, t.out.toList ++ q.2))
    | _ => none

/-- The packets among the results of DECODE operations, in order. -/
def packetsOf (os : List Output) : List Packet :=
  os.filterMap (fun o => match o with | .packet p => p | _ => none)

/-- `decs B1 … Bk` on instance i (R105): the state after and the packets emitted. -/
def decs (s : State) (i : Nat) (bs : ByteString) : Option (State × List Packet) :=
  (present s (bs.map (Request.decode i))).map (fun q => (q.1, packetsOf q.2))

/-- The stream bytes of a packet: `out[0..count)` of EXPAND (41_packet_expander.md R201). -/
def expandBytes (s : State) (p : Packet) : Option (State × ByteString) :=
  match transact s (.expand p) with
  | .next t =>
    match t.out with
    | some (.expanded count a b c) => some (t, [a, b, c].take count.toNat)
    | _ => none
  | _ => none

/-- The event datagram of a packet. -/
def eventDatagram (s : State) (p : Packet) : Option (State × ByteString) :=
  match transact s (.buildEvent p) with
  | .next t =>
    match t.out with
    | some (.datagram d) => some (t, d)
    | _ => none
  | _ => none

/-- One stream byte of `send` (R105, R321): DECODE, and an event datagram for the packet, if any. -/
def sendByte (s : State) (i : Nat) (b : Byte) : Option (State × List ByteString) :=
  match transact s (.decode i b) with
  | .next t =>
    match t.out with
    | some (.packet (some p)) => (eventDatagram t p).map (fun q => (q.1, [q.2]))
    | some (.packet none) => some (t, [])
    | _ => none
  | _ => none

/-- `send B1 … Bk` (R105, R321): the host's local-to-network path. -/
def send : State → Nat → ByteString → Option (State × List ByteString)
  | s, _, [] => some (s, [])
  | s, i, b :: bs =>
    match sendByte s i b with
    | some (t, ds) => (send t i bs).map (fun q => (q.1, ds ++ q.2))
    | none => none

/-- What a received datagram makes the host do (R320, R322). -/
inductive HostAction where
  /-- Submit these bytes to the local bus as one message. -/
  | submit (bytes : ByteString)
  /-- Nothing: IGNORE, or a count of 0 (41_packet_expander.md R222). -/
  | nothing
  /-- GOODBYE: stop after this cycle (R324). -/
  | stopAfterCycle
  deriving DecidableEq, Repr

/-- `relay D` (R105, R322): the host's network-to-local path. -/
def relay (s : State) (d : ByteString) : Option (State × HostAction) :=
  match transact s (.parse d) with
  | .next t =>
    match t.out with
    | some (.parsed (.event p)) =>
      (expandBytes t p).map (fun q => (q.1, if q.2 = [] then .nothing else .submit q.2))
    | some (.parsed .goodbye) => some (t, .stopAfterCycle)
    | some (.parsed .ignore) => some (t, .nothing)
    | _ => none
  | _ => none

/-- The host as R320 to R325 describe it. -/
structure Bridge where
  /-- The engine it drives. -/
  engine : State
  /-- Datagrams sent to the peer, oldest first. -/
  sent : List ByteString
  /-- Messages submitted to the local bus, oldest first. -/
  bus : List ByteString
  /-- The host has entered Stopped (R324). -/
  stopped : Bool
  /-- `HOST_RX_MAX`, the receive buffer (D31); `none` where it is not set, which the model reads as no
  limit (DESIGN CHOICE, log 13). -/
  rxMax : Option Nat
  deriving DecidableEq, Repr

/-- The datagram as the host is delivered it: a free value of Config where it is longer than the receive
buffer (log 13). DESIGN CHOICE (log 13): R9 and D31 give HOST_RX_MAX no meaning where it is not set; here
an unset one sets no limit, so every datagram is delivered whole, as is one that fits a set one. -/
def delivered (rxMax : Option Nat) (d : ByteString) : ByteString :=
  match rxMax with
  | none => d
  | some m => if d.length ≤ m then d else Config.oversizeDelivery m d

/-- What one pass of the host's loop finds ready: pending bytes of a local-bus source, or a datagram. -/
inductive HostWork where
  /-- The raw bytes of a pending bus event, for a decoder instance (R321). -/
  | busEvent (i : Nat) (bytes : ByteString)
  /-- A received datagram (R322). -/
  | datagram (d : ByteString)
  deriving DecidableEq, Repr

/-- One piece of work; the second component says whether it was a GOODBYE. `none` where the engine
refuses a transaction. -/
def Bridge.work (h : Bridge) : HostWork → Option (Bridge × Bool)
  | .busEvent i bytes =>
    (send h.engine i bytes).map (fun q => ({ h with engine := q.1, sent := h.sent ++ q.2 }, false))
  | .datagram d =>
    (relay h.engine (delivered h.rxMax d)).map (fun q =>
      match q.2 with
      | .submit bytes => ({ h with engine := q.1, bus := h.bus ++ [bytes] }, false)
      | .nothing => ({ h with engine := q.1 }, false)
      | .stopAfterCycle => ({ h with engine := q.1 }, true))

/-- All the work of one dispatch cycle, in the order the host takes it, the work after a GOODBYE too
(DESIGN CHOICE, log 13); whether a GOODBYE was among it. -/
def Bridge.works : Bridge → List HostWork → Option (Bridge × Bool)
  | h, [] => some (h, false)
  | h, w :: ws =>
    match h.work w with
    | some (k, bye) => (k.works ws).map (fun q => (q.1, bye || q.2))
    | none => none

/-- One dispatch cycle (R324): a stopped host does nothing; a GOODBYE stops the host when the cycle is
complete, not before. DESIGN CHOICE (log 13): R320 reads one datagram per readiness and no rule says what
a cycle holds, so here it holds any list of bus events and datagrams, in any order, and the work listed
after a GOODBYE, datagrams to relay among it, is still done in that cycle. -/
def Bridge.cycle (h : Bridge) (ws : List HostWork) : Option Bridge :=
  if h.stopped then some h
  else (h.works ws).map (fun q => { q.1 with stopped := q.2 })

/-- The host's startup, in engine terms (R320, R323, 70_reset_and_hazards.md R342, R343): RESET of every
instance, then one hello datagram. A FAIL is fatal (R303): `none`. -/
def Bridge.start (engine : State) (rxMax : Option Nat) (port : BitVec 16) (name : ByteString) :
    Option Bridge :=
  match present engine [.reset .all, .buildHello port name] with
  | some (t, [.resetDone, .hello (some d)]) =>
    some { engine := t, sent := [d], bus := [], stopped := false, rxMax := rxMax }
  | _ => none

end Sys2Proof.Machine
end

