-- ==== Sys2Proof/Safety.lean ====
section
/-!
DEFINITION. The words the statements use: when a transaction may run, what it means for one to answer, the
invariant of a run, and what a complete message, a sysex and an emitted packet are.
-/

namespace Sys2Proof

/-- The instance a transaction names exists. -/
def Request.namesInstance (n : Nat) : Request → Prop
  | .decode i _ => i < n
  | .reset (.one i) => i < n
  | .reset .all => True
  | .expand _ | .hexEncode _ | .hexDecode _ | .buildHello _ _ | .buildEvent _ | .buildGoodbye
  | .parse _ => True

/-- The transaction is a DECODE or a RESET, the only ones that read or write decoder state (00_scope.md
R14). -/
def Request.usesDecoder : Request → Bool
  | .decode _ _ => true
  | .reset _ => true
  | .expand _ | .hexEncode _ | .hexDecode _ | .buildHello _ _ | .buildEvent _ | .buildGoodbye
  | .parse _ => false

end Sys2Proof

namespace Sys2Proof.Machine

/-- A DECODE of instance `i` may run: the engine is configured and the instance holds registers that meet
10_state.md R37. -/
abbrev State.Holds (s : State) (i : Nat) (d : Decoder) : Prop :=
  s.configOk = true ∧ s.decoders[i]? = some d ∧ d.legal = true

/-- The instruction answers a next state in which instance `i` holds `d'`, the output port shows the
packet `p` (or no packet), the transaction is taken from the host's list, and nothing else has changed. -/
def DecodesTo (x : Instr) (s : State) (i : Nat) (d' : Decoder) (p : Option Packet) : Prop :=
  exec x s = .next { cfg := s.cfg, decoders := s.decoders.set i d', requests := s.requests.drop 1,
                     out := some (.packet p) }

/-- The instruction answers a next state in which the output port shows `o`, the transaction is taken from
the host's list, and nothing else has changed. -/
def Answers (x : Instr) (s : State) (o : Output) : Prop :=
  exec x s = .next { cfg := s.cfg, decoders := s.decoders, requests := s.requests.drop 1, out := some o }

/-- 10_state.md R33, outside sysex: the buffered byte of a partial message is a data byte. -/
def Decoder.bufHoldsData (d : Decoder) : Bool := d.sx || d.n == 0 || classOf d.buf0 == .data

/-- What every step keeps: the configuration is legal, and every decoder instance meets R37 and R33. -/
abbrev State.Inv (s : State) : Prop :=
  s.configOk = true ∧ ∀ d ∈ s.decoders, d.legal = true ∧ d.bufHoldsData = true

/-- The result is one of a DECODE or a RESET. -/
def Output.ofDecoder : Output → Bool
  | .packet _ => true
  | .resetDone => true
  | .expanded _ _ _ _ | .hexString _ | .hexValue _ _ | .hello _ | .datagram _ | .parsed _ => false

/-- Every byte is a data byte (30_encoding.md R91). -/
abbrev AllData (bs : ByteString) : Prop := ∀ b ∈ bs, classOf b = .data

/-- A complete non-sysex message (41_packet_expander.md R220): a status in 0x80 to 0xEF or 0xF1 to 0xF6
and as many data bytes as it takes, or one real-time byte. -/
def CompleteMessage : ByteString → Prop
  | [] => False
  | b :: rest =>
    (classOf b = .rt ∧ rest = []) ∨
      (classOf b = .status ∧ AllData rest ∧ (expOf b).map BitVec.toNat = some rest.length)

/-- The packets of a sysex (40_stream_decoder.md R173), from its bytes before the end marker: a CIN 0x4
packet for every three bytes, then the end packet with what is left and 0xF7. -/
def sysexPackets (cable : Nibble) : ByteString → List Packet
  | x :: y :: z :: rest => mkPacket cable 0x4 x y z :: sysexPackets cable rest
  | [x, y] => [mkPacket cable 0x7 x y 0xF7]
  | [x] => [mkPacket cable 0x6 x 0xF7 0x00]
  | [] => [mkPacket cable 0x5 0xF7 0x00 0x00]

/-- The data bytes of consecutive messages that take two each, as their packets under status `s`. -/
def pairPackets (cable cin : Nibble) (s : Byte) : ByteString → List Packet
  | x :: y :: rest => mkPacket cable cin s x y :: pairPackets cable cin s rest
  | [_] => []
  | [] => []

/-- The data bytes of consecutive messages that take one each, as their packets under status `s`. -/
def singlePackets (cable cin : Nibble) (s : Byte) : ByteString → List Packet
  | x :: rest => mkPacket cable cin s x 0x00 :: singlePackets cable cin s rest
  | [] => []

/-- 10_state.md R45 for a packet of the decoder: the cable of the configuration, a code index number that
is not reserved, and 0x00 in every lane that does not count. -/
abbrev WellMade (c : Config) (p : Packet) : Prop :=
  cableOfPacket p = c.cable ∧ cinOfPacket p ≠ 0x0 ∧ cinOfPacket p ≠ 0x1 ∧
    ((cinLen (cinOfPacket p)).toNat ≤ 1 → lane1 p = 0x00) ∧
    ((cinLen (cinOfPacket p)).toNat ≤ 2 → lane2 p = 0x00)

/-- The bytes the engine's EXPAND gives for each packet, joined in order; `none` where one is refused. -/
def expandAll (s : State) : List Packet → Option ByteString
  | [] => some []
  | p :: ps =>
    match expandBytes s p, expandAll s ps with
    | some (_, bs), some rest => some (bs ++ rest)
    | _, _ => none

end Sys2Proof.Machine
end

