-- ==== Sys2Proof/Certificates/Slice0/Obligations.lean ====
section
/-!
DEFINITION. The statements about the model, from the spec's numbered rules. Numbers such as `0x06F0F700`
are packets as 32-bit values `{TAG, P0, P1, P2}` (10_state.md R45).
-/

open Sys2Proof Sys2Proof.Machine

/-! ## The machine: step, reset, totality -/

/-- 20_memory.md R69, 60_exceptions.md R313: a step runs the transaction presented next, as its port and
its operand decode, on the whole state; with nothing presented it changes nothing. A raw table word is
presented as the next transaction (the model's choice, log 11). -/
def Obligations.StepRunsTheDecodedTransaction : Prop :=
  (∀ (s : State) (r : Request) (rest : List Request), s.requests = r :: rest →
    step s = exec (decode s.cfg r) s) ∧
  (∀ s : State, s.requests = [] → step s = .next s) ∧
  (∀ (s : State) (w : Nat),
    step (s.withFetchWord 8 w) = exec (decodeStreamByte 0 (BitVec.ofNat 8 w)) (s.withFetchWord 8 w) ∧
    step (s.withFetchWord 32 w) = exec (decodePacket (BitVec.ofNat 32 w)) (s.withFetchWord 32 w))

/-- Words written out from the spec's encodings (30_encoding.md R102) decode to their rows. That an 8-bit
word is for instance 0, a 32-bit word for EXPAND, and a 16-bit word for no port is the model's choice
(log 11). -/
def Obligations.TableWordsDecodeToTheirRows : Prop :=
  decodeTableWord 8 0x40 = some (.data 0 0x40) ∧
  decodeTableWord 8 0x93 = some (.noteOn 0 3) ∧
  decodeTableWord 8 0xF0 = some (.sysexStart 0) ∧
  decodeTableWord 8 0xF7 = some (.sysexEnd 0) ∧
  decodeTableWord 8 0xFF = some (.systemReset 0) ∧
  decodeTableWord 32 0x19903C64 = some (.expNoteOn 1 0x90 0x3C 0x64) ∧
  decodeTableWord 32 0x05F70000 = some (.expSingleOrSxend1 0 0xF7 0x00 0x00) ∧
  decodeTableWord 16 0x9090 = none

/-- 10_state.md R38: the registers of a decoder instance at reset. -/
def Obligations.ResetRegistersAreTheStatedValues : Prop :=
  ∀ d ∈ State.reset.decoders,
    d.rs = 0x00 ∧ d.buf0 = 0x00 ∧ d.buf1 = 0x00 ∧ d.n = 0 ∧ d.exp = 0 ∧ d.sx = false

/-- The invariant holds at reset. The reference configuration and the one instance at reset are the
model's choice (log 1, log 2). -/
def Obligations.ResetStateMeetsTheInvariant : Prop :=
  State.reset.Inv ∧ State.reset.decoders ≠ []

/-- 10_state.md R37 and R33: from every state that meets the invariant, whatever the host presents, a step
gives a state that meets it. The check that buffered sysex bytes are data bytes or the start byte is the
model's reading of R37 (log 6). -/
def Obligations.StepKeepsTheInvariant : Prop :=
  ∀ s t : State, s.Inv → step s = .next t → t.Inv

/-- 60_exceptions.md R300, 44_common_laws.md R284: from a state that meets the invariant, the engine
completes every transaction the host presents that names an instance it holds, each with one result. -/
def Obligations.EveryPresentedTransactionCompletes : Prop :=
  ∀ (s : State) (rs : List Request), s.Inv → (∀ r ∈ rs, r.namesInstance s.decoders.length) →
    ∃ t os, present s rs = some (t, os) ∧ os.length = rs.length ∧ t.Inv

/-- The only stops are the three refusals the model declares (log 6, log 7, log 8), each exactly under its
own condition, and no instruction faults. -/
def Obligations.RefusalsHaveTheirConditions : Prop :=
  ∀ (x : Instr) (s : State),
    (s.configOk = false → exec x s = .refused .configInvalid) ∧
    (∀ i, x.decoderIndex = some i → s.configOk = true → s.decoders[i]? = none →
      exec x s = .refused (.noSuchInstance i)) ∧
    (∀ i d, x.decoderIndex = some i → s.configOk = true → s.decoders[i]? = some d → d.legal = false →
      exec x s = .refused .decoderStateIllegal) ∧
    (∀ i, x = .reset (.one i) → s.configOk = true → s.decoders[i]? = none →
      exec x s = .refused (.noSuchInstance i)) ∧
    (∀ r, exec x s = .refused r →
      r = .configInvalid ∨ r = .decoderStateIllegal ∨ ∃ i, r = .noSuchInstance i) ∧
    (exec x s = .refused .configInvalid → s.configOk = false) ∧
    (exec x s = .refused .decoderStateIllegal → s.configOk = true ∧
      ∃ i d, x.decoderIndex = some i ∧ s.decoders[i]? = some d ∧ d.legal = false) ∧
    (∀ i, exec x s = .refused (.noSuchInstance i) → s.configOk = true ∧
      (x.decoderIndex = some i ∨ x = .reset (.one i)) ∧ s.decoders[i]? = none) ∧
    (∀ f, exec x s ≠ .fault f)

/-- 10_state.md R40 and R39: no operation changes the configuration or the number of instances. -/
def Obligations.StepKeepsConfigurationAndInstances : Prop :=
  ∀ s t : State, step s = .next t → t.cfg = s.cfg ∧ t.decoders.length = s.decoders.length

/-- 10_state.md R39: a DECODE or RESET of an instance writes only that instance's registers, and a DECODE
reads only those: states that agree on the configuration and that instance give the same result and the
same registers. -/
def Obligations.InstancesShareNoState : Prop :=
  (∀ (x : Instr) (i : Nat) (s t : State), x.decoderIndex = some i ∨ x = .reset (.one i) →
    exec x s = .next t → ∀ j, j ≠ i → t.decoders[j]? = s.decoders[j]?) ∧
  (∀ (x : Instr) (i : Nat) (s₁ s₂ t₁ : State), x.decoderIndex = some i → s₁.cfg = s₂.cfg →
    s₁.decoders[i]? = s₂.decoders[i]? → exec x s₁ = .next t₁ →
    ∃ t₂, exec x s₂ = .next t₂ ∧ t₂.out = t₁.out ∧ t₂.decoders[i]? = t₁.decoders[i]?)

/-- 10_state.md R44: every other operation keeps no state: with the same input and configuration it gives
the same output, whatever the decoder state, and leaves the decoder state as it is. -/
def Obligations.OtherOperationsKeepNoState : Prop :=
  ∀ (r : Request) (s₁ s₂ : State), r.usesDecoder = false → s₁.configOk = true → s₂.configOk = true →
    s₁.cfg = s₂.cfg →
    ∃ o, Answers (decode s₁.cfg r) s₁ o ∧ Answers (decode s₂.cfg r) s₂ o

/-- 20_memory.md R69: the two paths do not affect each other. In any order of transactions, the results of
the DECODE and RESET operations, and the decoder state they leave, are those of these operations presented
alone; and the results of the others are those of the others presented alone. -/
def Obligations.InterleavedPathsRunAsApart : Prop :=
  ∀ (s t : State) (rs : List Request) (os : List Output), present s rs = some (t, os) →
    (∃ u, present s (rs.filter Request.usesDecoder) = some (u, os.filter Output.ofDecoder) ∧
      u.decoders = t.decoders) ∧
    (∃ u, present s (rs.filter (fun r => !r.usesDecoder)) =
        some (u, os.filter (fun o => !o.ofDecoder)) ∧ u.decoders = s.decoders)

/-! ## Decode and encode -/

/-- Every well-formed instruction, with every operand, is read back from the transaction that presents
it. -/
def Obligations.DecodeReadsBackEveryInstruction : Prop :=
  ∀ (c : Config) (n : Nat) (x : Instr), x.wf c n = true → decode c (encode c x) = x

/-- 30_encoding.md R102: every transaction matches a row, the row keeps every bit of it, and the row is
well formed where the instance it names exists. -/
def Obligations.EncodeRestoresEveryTransaction : Prop :=
  ∀ (c : Config) (n : Nat) (r : Request),
    encode c (decode c r) = r ∧ (r.namesInstance n → (decode c r).wf c n = true)

/-- 30_encoding.md R91: the class of each stream byte value. -/
def Obligations.StreamBytesFallInTheirClasses : Prop :=
  ∀ b : Byte,
    (classOf b = .rt ↔ 0xF8 ≤ b) ∧ (classOf b = .sxEnd ↔ b = 0xF7) ∧ (classOf b = .sxStart ↔ b = 0xF0) ∧
    (classOf b = .status ↔ (0x80 ≤ b ∧ b ≤ 0xEF) ∨ (0xF1 ≤ b ∧ b ≤ 0xF6)) ∧
    (classOf b = .data ↔ b ≤ 0x7F)

/-- 30_encoding.md R93: the data-byte count and the code index number of each status. -/
def Obligations.StatusTableIsTheStatedOne : Prop :=
  (∀ ch : Nibble,
    expOf (0x8#4 ++ ch) = some 2 ∧ cinOf (0x8#4 ++ ch) = some 0x8 ∧
    expOf (0x9#4 ++ ch) = some 2 ∧ cinOf (0x9#4 ++ ch) = some 0x9 ∧
    expOf (0xA#4 ++ ch) = some 2 ∧ cinOf (0xA#4 ++ ch) = some 0xA ∧
    expOf (0xB#4 ++ ch) = some 2 ∧ cinOf (0xB#4 ++ ch) = some 0xB ∧
    expOf (0xC#4 ++ ch) = some 1 ∧ cinOf (0xC#4 ++ ch) = some 0xC ∧
    expOf (0xD#4 ++ ch) = some 1 ∧ cinOf (0xD#4 ++ ch) = some 0xD ∧
    expOf (0xE#4 ++ ch) = some 2 ∧ cinOf (0xE#4 ++ ch) = some 0xE) ∧
  expOf 0xF0 = some 0 ∧ cinOf 0xF0 = some 0x4 ∧
  expOf 0xF1 = some 1 ∧ cinOf 0xF1 = some 0x2 ∧
  expOf 0xF2 = some 2 ∧ cinOf 0xF2 = some 0x3 ∧
  expOf 0xF3 = some 1 ∧ cinOf 0xF3 = some 0x2 ∧
  expOf 0xF4 = some 0 ∧ cinOf 0xF4 = some 0x5 ∧
  expOf 0xF5 = some 0 ∧ cinOf 0xF5 = some 0x5 ∧
  expOf 0xF6 = some 0 ∧ cinOf 0xF6 = some 0x5 ∧
  expOf 0x00 = some 0 ∧ cinOf 0x00 = none

/-- 70_reset_and_hazards.md R349: the decoder's tables and the expander's agree, for every status but the
sysex start, whose code index number stands for a chunk and not for a message (log 12). -/
def Obligations.DecoderAndExpanderTablesAgree : Prop :=
  (∀ (b : Byte) (e : BitVec 2) (c : Nibble), b ≠ 0xF0 → expOf b = some e → cinOf b = some c →
    (cinLen c).toNat = 1 + e.toNat) ∧
  cinOf 0xF0 = some 0x4 ∧ cinLen 0x4 = 3

/-! ## StreamDecoder, row by row -/

/-- 40_stream_decoder.md R146 to R152: a channel voice status becomes the running status, the count is
what its row says, a partial message or sysex is discarded, and no packet comes. -/
def Obligations.ChannelVoiceStatusBecomesRunningStatus : Prop :=
  ∀ (s : State) (i : Nat) (d : Decoder) (ch : Nibble), s.Holds i d →
    DecodesTo (.noteOff i ch) s i ⟨0x8#4 ++ ch, 0x00, 0x00, 0, 2, false⟩ none ∧
    DecodesTo (.noteOn i ch) s i ⟨0x9#4 ++ ch, 0x00, 0x00, 0, 2, false⟩ none ∧
    DecodesTo (.polyPressure i ch) s i ⟨0xA#4 ++ ch, 0x00, 0x00, 0, 2, false⟩ none ∧
    DecodesTo (.controlChange i ch) s i ⟨0xB#4 ++ ch, 0x00, 0x00, 0, 2, false⟩ none ∧
    DecodesTo (.programChange i ch) s i ⟨0xC#4 ++ ch, 0x00, 0x00, 0, 1, false⟩ none ∧
    DecodesTo (.channelPressure i ch) s i ⟨0xD#4 ++ ch, 0x00, 0x00, 0, 1, false⟩ none ∧
    DecodesTo (.pitchBend i ch) s i ⟨0xE#4 ++ ch, 0x00, 0x00, 0, 2, false⟩ none

/-- 40_stream_decoder.md R154 to R159: the system common statuses; the three that take no data bytes emit
their packet at once. -/
def Obligations.SystemCommonStatusArrives : Prop :=
  ∀ (s : State) (i : Nat) (d : Decoder), s.Holds i d →
    DecodesTo (.mtcQuarterFrame i) s i ⟨0xF1, 0x00, 0x00, 0, 1, false⟩ none ∧
    DecodesTo (.songPosition i) s i ⟨0xF2, 0x00, 0x00, 0, 2, false⟩ none ∧
    DecodesTo (.songSelect i) s i ⟨0xF3, 0x00, 0x00, 0, 1, false⟩ none ∧
    DecodesTo (.undefF4 i) s i ⟨0xF4, 0x00, 0x00, 0, 0, false⟩
      (some (s.cfg.cable ++ 0x5#4 ++ 0xF4#8 ++ 0x00#8 ++ 0x00#8)) ∧
    DecodesTo (.undefF5 i) s i ⟨0xF5, 0x00, 0x00, 0, 0, false⟩
      (some (s.cfg.cable ++ 0x5#4 ++ 0xF5#8 ++ 0x00#8 ++ 0x00#8)) ∧
    DecodesTo (.tuneRequest i) s i ⟨0xF6, 0x00, 0x00, 0, 0, false⟩
      (some (s.cfg.cable ++ 0x5#4 ++ 0xF6#8 ++ 0x00#8 ++ 0x00#8))

/-- 40_stream_decoder.md R143: STATUS_ARRIVAL for every status byte it is written for. -/
def Obligations.StatusArrivalResetsTheCount : Prop :=
  ∀ (s : State) (i : Nat) (d : Decoder) (b : Byte), s.Holds i d →
    (0x80 ≤ b ∧ b ≤ 0xEF) ∨ (0xF1 ≤ b ∧ b ≤ 0xF6) →
    ∃ e c, expOf b = some e ∧ cinOf b = some c ∧
      DecodesTo (decodeStreamByte i b) s i ⟨b, 0x00, 0x00, 0, e, false⟩
        (if e = 0 then some (s.cfg.cable ++ c ++ b ++ 0x00#8 ++ 0x00#8) else none)

/-- 40_stream_decoder.md R153: 0xF0 starts a sysex with itself in the buffer, from every state; the first
packet comes on the second data byte, or is the end packet if the sysex ends first. -/
def Obligations.SysexStartBuffersTheStartByte : Prop :=
  ∀ (s : State) (i : Nat) (d : Decoder), s.Holds i d →
    DecodesTo (.sysexStart i) s i ⟨0xF0, 0xF0, 0x00, 1, 0, true⟩ none ∧
    (∀ x y : Byte, classOf x = .data → classOf y = .data →
      (∃ t, decs s i [0xF0, x] = some (t, [])) ∧
      (∃ t, decs s i [0xF0, x, y] = some (t, [s.cfg.cable ++ 0x4#4 ++ 0xF0#8 ++ x ++ y])) ∧
      (∃ t, decs s i [0xF0, x, 0xF7] = some (t, [s.cfg.cable ++ 0x7#4 ++ 0xF0#8 ++ x ++ 0xF7#8])) ∧
      (∃ t, decs s i [0xF0, 0xF7] = some (t, [s.cfg.cable ++ 0x6#4 ++ 0xF0#8 ++ 0xF7#8 ++ 0x00#8])))

/-- 40_stream_decoder.md R160: 0xF7 flushes what a sysex has buffered in the end packet of its length, or
is discarded outside sysex; the registers are clear either way. -/
def Obligations.SysexEndFlushesAndClears : Prop :=
  ∀ (s : State) (i : Nat) (d : Decoder), s.Holds i d →
    DecodesTo (.sysexEnd i) s i ⟨0x00, 0x00, 0x00, 0, 0, false⟩
      (if d.sx = false then none
       else if d.n = 0 then some (s.cfg.cable ++ 0x5#4 ++ 0xF7#8 ++ 0x00#8 ++ 0x00#8)
       else if d.n = 1 then some (s.cfg.cable ++ 0x6#4 ++ d.buf0 ++ 0xF7#8 ++ 0x00#8)
       else some (s.cfg.cable ++ 0x7#4 ++ d.buf0 ++ d.buf1 ++ 0xF7#8))

/-- 40_stream_decoder.md R144: what a data byte does, in sysex, with no running status, after a status
that takes none, and in a message. -/
def Obligations.DataByteBuffersOrCompletes : Prop :=
  ∀ (s : State) (i : Nat) (d : Decoder) (v : BitVec 7), s.Holds i d →
    if d.sx = true then
      if d.n = 0 then DecodesTo (.data i v) s i { d with buf0 := 0#1 ++ v, n := 1 } none
      else if d.n = 1 then DecodesTo (.data i v) s i { d with buf1 := 0#1 ++ v, n := 2 } none
      else DecodesTo (.data i v) s i { d with buf0 := 0x00, buf1 := 0x00, n := 0 }
        (some (s.cfg.cable ++ 0x4#4 ++ d.buf0 ++ d.buf1 ++ (0#1 ++ v)))
    else if d.rs = 0x00 then DecodesTo (.data i v) s i d none
    else if d.exp = 0 then DecodesTo (.data i v) s i d none
    else if d.exp = 1 then
      ∃ c, cinOf d.rs = some c ∧
        DecodesTo (.data i v) s i { d with buf0 := 0x00, buf1 := 0x00, n := 0 }
          (some (s.cfg.cable ++ c ++ d.rs ++ (0#1 ++ v) ++ 0x00#8))
    else if d.n = 0 then DecodesTo (.data i v) s i { d with buf0 := 0#1 ++ v, n := 1 } none
    else
      ∃ c, cinOf d.rs = some c ∧
        DecodesTo (.data i v) s i { d with buf0 := 0x00, buf1 := 0x00, n := 0 }
          (some (s.cfg.cable ++ c ++ d.rs ++ d.buf0 ++ (0#1 ++ v)))

/-- 40_stream_decoder.md R161 to R168: each real-time row emits its byte under CIN 0xF and writes no
register; 0xFF resets nothing. -/
def Obligations.RealTimeRowsEmitTheirByte : Prop :=
  ∀ (s : State) (i : Nat) (d : Decoder), s.Holds i d →
    Answers (.timingClock i) s (.packet (some (s.cfg.cable ++ 0xF#4 ++ 0xF8#8 ++ 0x00#8 ++ 0x00#8))) ∧
    Answers (.undefF9 i) s (.packet (some (s.cfg.cable ++ 0xF#4 ++ 0xF9#8 ++ 0x00#8 ++ 0x00#8))) ∧
    Answers (.start i) s (.packet (some (s.cfg.cable ++ 0xF#4 ++ 0xFA#8 ++ 0x00#8 ++ 0x00#8))) ∧
    Answers (.continue_ i) s (.packet (some (s.cfg.cable ++ 0xF#4 ++ 0xFB#8 ++ 0x00#8 ++ 0x00#8))) ∧
    Answers (.stop i) s (.packet (some (s.cfg.cable ++ 0xF#4 ++ 0xFC#8 ++ 0x00#8 ++ 0x00#8))) ∧
    Answers (.undefFD i) s (.packet (some (s.cfg.cable ++ 0xF#4 ++ 0xFD#8 ++ 0x00#8 ++ 0x00#8))) ∧
    Answers (.activeSensing i) s (.packet (some (s.cfg.cable ++ 0xF#4 ++ 0xFE#8 ++ 0x00#8 ++ 0x00#8))) ∧
    Answers (.systemReset i) s (.packet (some (s.cfg.cable ++ 0xF#4 ++ 0xFF#8 ++ 0x00#8 ++ 0x00#8)))

/-- 40_stream_decoder.md R141: the rows do what the dispatch pseudocode does, for every byte. -/
def Obligations.RowsAgreeWithDispatchPseudocode : Prop :=
  ∀ (s : State) (i : Nat) (d : Decoder) (b : Byte), s.Holds i d →
    DecodesTo (decode s.cfg (.decode i b)) s i (decodeByte s.cfg.cable b d).1
      (decodeByte s.cfg.cable b d).2

/-- 10_state.md R45, 40_stream_decoder.md R142: every packet a DECODE emits carries the configured cable,
a code index number that is not reserved, and 0x00 in every lane that does not count. -/
def Obligations.EmittedPacketsAreWellMade : Prop :=
  ∀ (x : Instr) (i : Nat) (s t : State) (p : Packet), x.decoderIndex = some i → exec x s = .next t →
    t.out = some (.packet (some p)) → WellMade s.cfg p

/-! ## StreamDecoder, over byte sequences -/

/-- 40_stream_decoder.md R171: a real-time byte changes no register and adds its own packet in its place,
anywhere in a stream. -/
def Obligations.RealTimeBytesAreTransparent : Prop :=
  ∀ (s : State) (i : Nat) (d : Decoder) (r : Byte), s.Holds i d → 0xF8 ≤ r →
    Answers (decodeStreamByte i r) s (.packet (some (mkPacket s.cfg.cable 0xF r 0x00 0x00))) ∧
    ∀ u v : ByteString, ∃ t₁ t₂ t₃ pu pv,
      decs s i u = some (t₁, pu) ∧ decs s i (u ++ v) = some (t₂, pu ++ pv) ∧
      decs s i (u ++ r :: v) = some (t₃, pu ++ mkPacket s.cfg.cable 0xF r 0x00 0x00 :: pv) ∧
      t₃.decoders = t₂.decoders

/-- 40_stream_decoder.md R172: under one status byte, every k data bytes make one packet with that status
in P0, where k is the count of the status. -/
def Obligations.RunningStatusRepeatsTheStatus : Prop :=
  ∀ (s : State) (i : Nat) (d : Decoder) (st : Byte) (ds : ByteString) (m : Nat), s.Holds i d →
    classOf st = .status → AllData ds →
    (expOf st = some 1 → ds.length = m → ∃ c t ps, cinOf st = some c ∧
      decs s i (st :: ds) = some (t, ps) ∧ ps = singlePackets s.cfg.cable c st ds ∧ ps.length = m ∧
      ∀ p ∈ ps, lane0 p = st) ∧
    (expOf st = some 2 → ds.length = m * 2 → ∃ c t ps, cinOf st = some c ∧
      decs s i (st :: ds) = some (t, ps) ∧ ps = pairPackets s.cfg.cable c st ds ∧ ps.length = m ∧
      ∀ p ∈ ps, lane0 p = st)

/-- 40_stream_decoder.md R173: an uninterrupted sysex comes out in packets of three bytes and one end
packet, and leaves the reset state; real-time bytes anywhere in it add only their own packets. -/
def Obligations.SysexComesOutInChunks : Prop :=
  ∀ (s : State) (i : Nat) (d : Decoder) (ds : ByteString), s.Holds i d → d.sx = false → AllData ds →
    (∃ t ps q, decs s i (0xF0 :: ds ++ [0xF7]) = some (t, ps ++ [q]) ∧
      ps ++ [q] = sysexPackets s.cfg.cable (0xF0 :: ds) ∧
      ps.length = (ds.length + 1) / 3 ∧
      (∀ p ∈ ps, cinOfPacket p = 0x4) ∧
      cinOfPacket q = BitVec.ofNat 4 (5 + (ds.length + 1) % 3) ∧
      t.decoders = s.decoders.set i Decoder.reset) ∧
    (∀ w : ByteString, w.filter (fun b => classOf b != .rt) = 0xF0 :: ds ++ [0xF7] →
      ∃ t ps, decs s i w = some (t, ps) ∧
        ps.filter (fun p => cinOfPacket p != 0xF) = sysexPackets s.cfg.cable (0xF0 :: ds) ∧
        ps.filter (fun p => cinOfPacket p == 0xF) =
          (w.filter (fun b => classOf b == .rt)).map (fun r => mkPacket s.cfg.cable 0xF r 0x00 0x00) ∧
        t.decoders = s.decoders.set i Decoder.reset)

/-- 41_packet_expander.md R220: a complete non-sysex message gives one packet, on its last byte, and the
expander gives the message back byte for byte. -/
def Obligations.MessageSurvivesDecodeAndExpand : Prop :=
  ∀ (s : State) (i : Nat) (d : Decoder) (m : ByteString), s.Holds i d → d.n = 0 → d.sx = false →
    CompleteMessage m →
    (∃ t, decs s i m.dropLast = some (t, [])) ∧
    ∃ t p, decs s i m = some (t, [p]) ∧ ∃ u, expandBytes t p = some (u, m)

/-- 41_packet_expander.md R221: whatever real-time bytes interrupt a sysex, expanding its packets without
the real-time ones gives the sysex back. -/
def Obligations.SysexReassembles : Prop :=
  ∀ (s : State) (i : Nat) (d : Decoder) (ds w : ByteString), s.Holds i d → AllData ds →
    w.filter (fun b => classOf b != .rt) = 0xF0 :: ds ++ [0xF7] →
    ∃ t ps, decs s i w = some (t, ps) ∧
      expandAll t (ps.filter (fun p => cinOfPacket p != 0xF)) = some (0xF0 :: ds ++ [0xF7])

/-! ## PacketExpander -/

/-- 41_packet_expander.md R202, R203: a reserved code index number gives count 0, and DECODE never emits
one. -/
def Obligations.ReservedCinsExpandToNothing : Prop :=
  (∀ (s : State) (cn : Nibble) (p0 p1 p2 : Byte), s.configOk = true →
    Answers (.expMisc cn p0 p1 p2) s (.expanded 0 0x00 0x00 0x00) ∧
    Answers (.expCableEvent cn p0 p1 p2) s (.expanded 0 0x00 0x00 0x00)) ∧
  (∀ (x : Instr) (i : Nat) (s t : State) (p : Packet), x.decoderIndex = some i → exec x s = .next t →
    t.out = some (.packet (some p)) → cinOfPacket p ≠ 0x0 ∧ cinOfPacket p ≠ 0x1)

/-- 41_packet_expander.md R207, R217: the single-byte code index numbers give one lane. -/
def Obligations.SingleByteCinsExpandToOne : Prop :=
  ∀ (s : State) (cn : Nibble) (p0 p1 p2 : Byte), s.configOk = true →
    Answers (.expSingleOrSxend1 cn p0 p1 p2) s (.expanded 1 p0 0x00 0x00) ∧
    Answers (.expSingleByte cn p0 p1 p2) s (.expanded 1 p0 0x00 0x00)

/-- 41_packet_expander.md R204, R208, R214, R215: the two-byte code index numbers give two lanes. -/
def Obligations.TwoByteCinsExpandToTwo : Prop :=
  ∀ (s : State) (cn : Nibble) (p0 p1 p2 : Byte), s.configOk = true →
    Answers (.expSyscom2 cn p0 p1 p2) s (.expanded 2 p0 p1 0x00) ∧
    Answers (.expSxend2 cn p0 p1 p2) s (.expanded 2 p0 p1 0x00) ∧
    Answers (.expProgramChange cn p0 p1 p2) s (.expanded 2 p0 p1 0x00) ∧
    Answers (.expChannelPressure cn p0 p1 p2) s (.expanded 2 p0 p1 0x00)

/-- 41_packet_expander.md R205, R206, R209 to R213, R216: the three-byte code index numbers give all three
lanes, unchecked. -/
def Obligations.ThreeByteCinsExpandToThree : Prop :=
  ∀ (s : State) (cn : Nibble) (p0 p1 p2 : Byte), s.configOk = true →
    Answers (.expSyscom3 cn p0 p1 p2) s (.expanded 3 p0 p1 p2) ∧
    Answers (.expSysex cn p0 p1 p2) s (.expanded 3 p0 p1 p2) ∧
    Answers (.expSxend3 cn p0 p1 p2) s (.expanded 3 p0 p1 p2) ∧
    Answers (.expNoteOff cn p0 p1 p2) s (.expanded 3 p0 p1 p2) ∧
    Answers (.expNoteOn cn p0 p1 p2) s (.expanded 3 p0 p1 p2) ∧
    Answers (.expPolyPressure cn p0 p1 p2) s (.expanded 3 p0 p1 p2) ∧
    Answers (.expControlChange cn p0 p1 p2) s (.expanded 3 p0 p1 p2) ∧
    Answers (.expPitchBend cn p0 p1 p2) s (.expanded 3 p0 p1 p2)

/-- 41_packet_expander.md R201, 30_encoding.md R95: for every 32-bit packet, the count is CIN_LEN of bits
27:24, and lane k is P's lane where k is below the count and 0x00 otherwise. -/
def Obligations.ExpandFollowsCinLen : Prop :=
  ∀ (s : State) (p : Packet), s.configOk = true →
    ∃ count a b c, Answers (decode s.cfg (.expand p)) s (.expanded count a b c) ∧
      ([0, 0, 2, 3, 3, 1, 2, 3, 3, 3, 3, 3, 2, 2, 3, 1] : List Nat)[(p.extractLsb' 24 4).toNat]?
        = some count.toNat ∧
      a = (if 0 < count.toNat then p.extractLsb' 16 8 else 0x00) ∧
      b = (if 1 < count.toNat then p.extractLsb' 8 8 else 0x00) ∧
      c = (if 2 < count.toNat then p.extractLsb' 0 8 else 0x00)

/-- 41_packet_expander.md R218: packets that differ only in bits 31:28 expand alike. -/
def Obligations.ExpandIgnoresTheCable : Prop :=
  ∀ (s : State) (p q : Packet), p.extractLsb' 0 28 = q.extractLsb' 0 28 →
    exec (decode s.cfg (.expand p)) s = exec (decode s.cfg (.expand q)) s

/-! ## HexCodec -/

/-- 42_hex_codec.md R230: eight characters, most significant nibble first, lowercase. -/
def Obligations.HexEncodeWritesEightDigits : Prop :=
  ∀ (s : State) (v : Word), s.configOk = true →
    ∃ str, Answers (.hexEncode v) s (.hexString str) ∧ str.length = 8 ∧
      ∀ k, k < 8 → str[k]? = some
        (if (v.extractLsb' (28 - 4 * k) 4).toNat ≤ 9
         then BitVec.ofNat 8 (0x30 + (v.extractLsb' (28 - 4 * k) 4).toNat)
         else BitVec.ofNat 8 (0x61 + ((v.extractLsb' (28 - 4 * k) 4).toNat - 10)))

/-- 42_hex_codec.md R232, R236: a string of fewer than eight bytes, or with a character that is not
accepted among its first eight, gives `(0, 0)`; otherwise the value whose nibbles the eight characters
are, whatever follows them. -/
def Obligations.HexDecodeReadsTheFirstEight : Prop :=
  ∀ (s : State) (str : ByteString), s.configOk = true →
    (str.length < 8 → Answers (.hexDecode str) s (.hexValue false 0)) ∧
    (∀ (k : Nat) (ch : Byte), k ≤ 7 → str[k]? = some ch → nibbleOf s.cfg.hexUpper ch = none →
      Answers (.hexDecode str) s (.hexValue false 0)) ∧
    (8 ≤ str.length →
      (∀ (k : Nat) (ch : Byte), k ≤ 7 → str[k]? = some ch → nibbleOf s.cfg.hexUpper ch ≠ none) →
      ∃ v : Word, Answers (.hexDecode str) s (.hexValue true v) ∧
        ∀ k, k ≤ 7 → (str[k]?).bind (nibbleOf s.cfg.hexUpper) = some (v.extractLsb' (28 - 4 * k) 4))

/-- 42_hex_codec.md R231, R233: the accepted characters and their values, with uppercase and without; and
HEX_ENCODE writes only the sixteen lowercase ones. -/
def Obligations.HexAlphabetIsTheStatedOne : Prop :=
  (∀ (u : Bool) (k : Fin 10), nibbleOf u (BitVec.ofNat 8 (0x30 + k)) = some (BitVec.ofNat 4 k)) ∧
  (∀ (u : Bool) (k : Fin 6), nibbleOf u (BitVec.ofNat 8 (0x61 + k)) = some (BitVec.ofNat 4 (10 + k)) ∧
    nibbleOf u (BitVec.ofNat 8 (0x41 + k)) = if u then some (BitVec.ofNat 4 (10 + k)) else none) ∧
  (∀ (u : Bool) (ch : Byte), ¬ (0x30 ≤ ch ∧ ch ≤ 0x39) → ¬ (0x61 ≤ ch ∧ ch ≤ 0x66) →
    ¬ (0x41 ≤ ch ∧ ch ≤ 0x46) → nibbleOf u ch = none) ∧
  (∀ x : Nibble, (0x30 ≤ hexDigit x ∧ hexDigit x ≤ 0x39) ∨ (0x61 ≤ hexDigit x ∧ hexDigit x ≤ 0x66))

/-- 42_hex_codec.md R235: decoding an encoded value gives it back, under either setting of the
uppercase field. -/
def Obligations.HexRoundTripsEveryValue : Prop :=
  ∀ (s : State) (v : Word), s.configOk = true →
    ∃ c, Answers (.hexEncode v) s (.hexString c) ∧ Answers (.hexDecode c) s (.hexValue true v)

/-! ## WireProtocol -/

/-- 43_wire_protocol.md R250: the hello datagram, or FAIL for a name that holds 0x00 or is too long. -/
def Obligations.BuildHelloWritesTheDatagram : Prop :=
  ∀ (s : State) (port : BitVec 16) (name : ByteString), s.configOk = true →
    (((0x00 : Byte) ∈ name ∨ ∃ m, s.cfg.nameMax = some m ∧ m < name.length) →
      Answers (.buildHello port name) s (.hello none)) ∧
    ((0x00 : Byte) ∉ name → (∀ m, s.cfg.nameMax = some m → name.length ≤ m) →
      Answers (.buildHello port name) s (.hello (some
        ([0x2F] ++ s.cfg.app ++ [0x2F, 0x68, 0x65, 0x6C, 0x6C, 0x6F, 0x00, 0x2C, 0x69, 0x73, 0x00]
          ++ [0x00, 0x00, port.extractLsb' 8 8, port.extractLsb' 0 8]
          ++ name ++ List.replicate (4 * (name.length / 4) + 4 - name.length) 0x00))))

/-- 43_wire_protocol.md R252, R253: the event and the goodbye datagram. -/
def Obligations.BuildEventAndGoodbyeWriteTheDatagrams : Prop :=
  ∀ (s : State) (p : Packet), s.configOk = true →
    (∃ h, Answers (.hexEncode p) s (.hexString h) ∧
      Answers (.buildEvent p) s (.datagram
        ([0x2F] ++ s.cfg.app ++ [0x2F, 0x65, 0x76, 0x65, 0x6E, 0x74, 0x00, 0x2C, 0x73, 0x00, 0x00]
          ++ h ++ List.replicate s.cfg.eventPad.toNat 0x00))) ∧
    Answers .buildGoodbye s (.datagram
      ([0x2F] ++ s.cfg.app ++ [0x2F, 0x62, 0x79, 0x65, 0x00, 0x00, 0x00]))

/-- 43_wire_protocol.md R254: the lengths of the three datagrams. -/
def Obligations.DatagramsHaveTheStatedLengths : Prop :=
  ∀ (s t : State),
    (∀ port name d, exec (.buildHello port name) s = .next t → t.out = some (.hello (some d)) →
      d.length = s.cfg.app.length + 16 + 4 * (name.length / 4) + 4) ∧
    (∀ p d, exec (.buildEvent p) s = .next t → t.out = some (.datagram d) →
      d.length = s.cfg.app.length + 20 + s.cfg.eventPad.toNat ∧
      (s.cfg.eventPad = 3 ∨ s.cfg.eventPad = 4)) ∧
    (∀ d, exec .buildGoodbye s = .next t → t.out = some (.datagram d) → d.length = s.cfg.app.length + 8)

/-- 43_wire_protocol.md R261: MATCH holds exactly when the datagram is long enough and agrees with the
prefix at each of its bytes. -/
def Obligations.PrefixMatchIsByteForByte : Prop :=
  ∀ d x : ByteString, matchPrefix d x = true ↔
    x.length ≤ d.length ∧ ∀ k, k < x.length → d[k]? = x[k]?

/-- 30_encoding.md R100: no datagram matches both prefixes, and one that begins with the hello header
matches neither; the three differ at offset L + 2. -/
def Obligations.PrefixesAreUnambiguous : Prop :=
  ∀ app d : ByteString,
    (eventPrefix app)[app.length + 2]? = some 0x65 ∧ (byePrefix app)[app.length + 2]? = some 0x62 ∧
    (helloHeader app)[app.length + 2]? = some 0x68 ∧
    ¬ (matchPrefix d (eventPrefix app) = true ∧ matchPrefix d (byePrefix app) = true) ∧
    (matchPrefix d (helloHeader app) = true →
      matchPrefix d (eventPrefix app) = false ∧ matchPrefix d (byePrefix app) = false)

/-- 43_wire_protocol.md R262 to R264: what each PARSE row answers. -/
def Obligations.ParseRowsAnswer : Prop :=
  ∀ (s : State) (payload rest d : ByteString), s.configOk = true →
    (payload.length < 8 → Answers (.parseEvent payload) s (.parsed .ignore)) ∧
    (8 ≤ payload.length → hexDecode s.cfg.hexUpper (payload.take 8) = none →
      Answers (.parseEvent payload) s (.parsed .ignore)) ∧
    (∀ v, 8 ≤ payload.length → hexDecode s.cfg.hexUpper (payload.take 8) = some v →
      Answers (.parseEvent payload) s (.parsed (.event v))) ∧
    Answers (.parseGoodbye rest) s (.parsed .goodbye) ∧
    Answers (.parseOther d) s (.parsed .ignore)

/-- 43_wire_protocol.md R260: PARSE of a whole datagram, by its bytes: event before goodbye, length before
hex. -/
def Obligations.ParseClassifiesEveryDatagram : Prop :=
  ∀ (s : State) (d : ByteString), s.configOk = true →
    Answers (decode s.cfg (.parse d)) s (.parsed (parse s.cfg d)) ∧
    (∀ rest, d = eventPrefix s.cfg.app ++ rest → rest.length < 8 → parse s.cfg d = .ignore) ∧
    (∀ h rest, d = eventPrefix s.cfg.app ++ h ++ rest → h.length = 8 →
      parse s.cfg d = match hexDecode s.cfg.hexUpper h with
        | some v => .event v
        | none => .ignore) ∧
    (∀ rest, d = byePrefix s.cfg.app ++ rest → parse s.cfg d = .goodbye) ∧
    ((∀ rest, d ≠ eventPrefix s.cfg.app ++ rest) → (∀ rest, d ≠ byePrefix s.cfg.app ++ rest) →
      parse s.cfg d = .ignore)

/-- 43_wire_protocol.md R265: PARSE reads no byte at index L + 20 or above, and none after a goodbye
prefix. -/
def Obligations.ParseDoesNotReadTheTrailer : Prop :=
  ∀ (s : State) (d e : ByteString),
    (d.take (s.cfg.app.length + 20) = e.take (s.cfg.app.length + 20) →
      exec (decode s.cfg (.parse d)) s = exec (decode s.cfg (.parse e)) s) ∧
    exec (decode s.cfg (.parse (byePrefix s.cfg.app ++ d))) s =
      exec (decode s.cfg (.parse (byePrefix s.cfg.app ++ e))) s

/-- 43_wire_protocol.md R267: every packet comes back from the event datagram built for it. -/
def Obligations.EventDatagramRoundTrips : Prop :=
  ∀ (s : State) (p : Packet), s.configOk = true →
    ∃ d, Answers (.buildEvent p) s (.datagram d) ∧
      Answers (decode s.cfg (.parse d)) s (.parsed (.event p))

/-- 43_wire_protocol.md R268: a built goodbye parses as GOODBYE, and every built hello as IGNORE. -/
def Obligations.GoodbyeAndHelloDatagramsParse : Prop :=
  ∀ (s : State), s.configOk = true →
    (∃ d, Answers .buildGoodbye s (.datagram d) ∧
      Answers (decode s.cfg (.parse d)) s (.parsed .goodbye)) ∧
    (∀ port name d, Answers (.buildHello port name) s (.hello (some d)) →
      Answers (decode s.cfg (.parse d)) s (.parsed .ignore))

/-! ## RESET and the discard causes -/

/-- 70_reset_and_hazards.md R340: RESET writes the reset values to the instance it names, or to all, from
any decoder state, and gives no packet; the stream byte 0xFF does not. That RESET shows `resetDone`, and
that it asks for no legal decoder state, are the model's choices (log 4, log 6). -/
def Obligations.ResetClearsTheNamedInstances : Prop :=
  ∀ (s : State), s.configOk = true →
    (∀ i, i < s.decoders.length →
      exec (.reset (.one i)) s = .next { cfg := s.cfg,
                                         decoders := s.decoders.set i ⟨0x00, 0x00, 0x00, 0, 0, false⟩,
                                         requests := s.requests.drop 1, out := some .resetDone }) ∧
    exec (.reset .all) s = .next { cfg := s.cfg,
                                   decoders := List.replicate s.decoders.length
                                     ⟨0x00, 0x00, 0x00, 0, 0, false⟩,
                                   requests := s.requests.drop 1, out := some .resetDone } ∧
    (∀ i t, exec (.systemReset i) s = .next t → t.decoders = s.decoders)

/-- 60_exceptions.md R301: the condition of each discard cause. -/
def Obligations.DiscardCausesHaveTheirConditions : Prop :=
  (∀ (b : Byte) (d : Decoder),
    (.dc1 ∈ decodeCauses b d ↔ b ≤ 0x7F ∧ d.sx = false ∧ d.rs = 0x00) ∧
    (.dc2 ∈ decodeCauses b d ↔ b ≤ 0x7F ∧ d.sx = false ∧ d.exp = 0 ∧ d.rs ≠ 0x00) ∧
    (.dc3 ∈ decodeCauses b d ↔ b = 0xF7 ∧ d.sx = false) ∧
    (.dc4 ∈ decodeCauses b d ↔ (0x80 ≤ b ∧ b ≤ 0xF7) ∧ d.sx = false ∧ d.n ≠ 0) ∧
    (.dc5 ∈ decodeCauses b d ↔ (0x80 ≤ b ∧ b ≤ 0xF6 ∧ b ≠ 0xF0) ∧ d.sx = true) ∧
    (.dc6 ∈ decodeCauses b d ↔ b = 0xF0 ∧ d.sx = true)) ∧
  (∀ p : Packet, .xc1 ∈ expandCauses p ↔ cinOfPacket p = 0x0 ∨ cinOfPacket p = 0x1) ∧
  (∀ (u : Bool) (str : ByteString), .hc1 ∈ hexCauses u str ↔
    str.length < 8 ∨ ∃ k ch, k < 8 ∧ str[k]? = some ch ∧ nibbleOf u ch = none) ∧
  (∀ (c : Config) (d : ByteString),
    (.pc1 ∈ parseCauses c d ↔
      (∀ rest, d ≠ eventPrefix c.app ++ rest) ∧ (∀ rest, d ≠ byePrefix c.app ++ rest)) ∧
    (.pc2 ∈ parseCauses c d ↔
      (∃ rest, d = eventPrefix c.app ++ rest) ∧ d.length < c.app.length + 20) ∧
    (.pc3 ∈ parseCauses c d ↔
      ∃ h rest, d = eventPrefix c.app ++ h ++ rest ∧ h.length = 8 ∧ hexDecode c.hexUpper h = none)) ∧
  (∀ (c : Config) (name : ByteString), .sc1 ∈ helloCauses c name ↔
    (0x00 : Byte) ∈ name ∨ ∃ m, c.nameMax = some m ∧ m < name.length)

/-- 60_exceptions.md R301: the result of each discard cause. Under DC4, DC5 and DC6 the registers and
the packet are those the byte gives from an empty buffer outside sysex, and are named for 0xF7, for 0xF0
and for every other status, so what was in the buffer does not show in them. That 0xF4 to 0xF6 still
emit their own packet under DC4 and DC5 is the model's reading, from 40_stream_decoder.md R143 and the
example of R159, against the letter of R302, which says no packet for DC1 to DC6 (log 15). -/
def Obligations.DiscardCausesHaveTheirResults : Prop :=
  (∀ (s : State) (i : Nat) (d : Decoder) (b : Byte), s.Holds i d →
    (.dc1 ∈ decodeCauses b d ∨ .dc2 ∈ decodeCauses b d →
      Answers (decodeStreamByte i b) s (.packet none)) ∧
    (.dc3 ∈ decodeCauses b d → DecodesTo (decodeStreamByte i b) s i Decoder.reset none) ∧
    (.dc4 ∈ decodeCauses b d ∨ .dc5 ∈ decodeCauses b d ∨ .dc6 ∈ decodeCauses b d →
      ∃ d' p, DecodesTo (decodeStreamByte i b) s i d' p ∧
        DecodesTo (decodeStreamByte i b)
          { s with decoders := s.decoders.set i { Decoder.reset with rs := 0x80, exp := 2 } }
          i d' p ∧
        (b = 0xF7 → d' = Decoder.reset ∧ p = none) ∧
        (b = 0xF0 → d' = ⟨0xF0, 0xF0, 0x00, 1, 0, true⟩ ∧ p = none) ∧
        (b ≠ 0xF7 → b ≠ 0xF0 → ∃ e, expOf b = some e ∧ d' = ⟨b, 0x00, 0x00, 0, e, false⟩ ∧
          p = if e = 0 then some (s.cfg.cable ++ 0x5#4 ++ b ++ 0x00#8 ++ 0x00#8) else none))) ∧
  (∀ (s : State), s.configOk = true →
    (∀ p, .xc1 ∈ expandCauses p →
      Answers (decode s.cfg (.expand p)) s (.expanded 0 0x00 0x00 0x00)) ∧
    (∀ str, .hc1 ∈ hexCauses s.cfg.hexUpper str → Answers (.hexDecode str) s (.hexValue false 0)) ∧
    (∀ d, parseCauses s.cfg d ≠ [] → Answers (decode s.cfg (.parse d)) s (.parsed .ignore)) ∧
    (∀ port name, .sc1 ∈ helloCauses s.cfg name → Answers (.buildHello port name) s (.hello none)))

/-! ## The host's paths -/

/-- 60_exceptions.md R321, R322 with R220 and R267: a complete message on one engine's local bus gives
exactly one event datagram, and a peer engine with the same APP, whatever its decoder state and its other
settings, submits the same bytes to its own bus. -/
def Obligations.MessageCrossesTheNetworkUnchanged : Prop :=
  ∀ (s q : State) (i : Nat) (d : Decoder) (m : ByteString), s.Holds i d → d.n = 0 → d.sx = false →
    CompleteMessage m → q.configOk = true → q.cfg.app = s.cfg.app →
    ∃ t u g, send s i m = some (t, [g]) ∧ relay q g = some (u, .submit m) ∧ u.decoders = q.decoders

/-- 60_exceptions.md R324: GOODBYE is the only thing that stops the host, and it stops when the cycle is
complete: it is stopped after a cycle exactly when a datagram delivered in that cycle begins with
BYE_PREFIX, wherever in the cycle it was. That a cycle may hold any number of datagrams, and goes on with
those after a GOODBYE, and that an unset HOST_RX_MAX is no limit, are the model's choices (log 13). -/
def Obligations.OnlyGoodbyeStopsTheHost : Prop :=
  ∀ (h k : Bridge) (ws : List HostWork), h.stopped = false → h.cycle ws = some k →
    (k.stopped = true ↔ ∃ d, HostWork.datagram d ∈ ws ∧
      matchPrefix (delivered h.rxMax d) (byePrefix h.engine.cfg.app) = true)

/-- 60_exceptions.md R320, R323: at startup every instance is reset and one hello datagram is sent; a
name that BUILD_HELLO refuses is fatal. -/
def Obligations.StartupResetsAndSaysHelloOnce : Prop :=
  ∀ (s : State) (rx : Option Nat) (port : BitVec 16) (name : ByteString), s.configOk = true →
    (∀ g, buildHello s.cfg port name = some g →
      ∃ h, Bridge.start s rx port name = some h ∧ h.sent = [g] ∧ h.bus = [] ∧ h.stopped = false ∧
        h.engine.cfg = s.cfg ∧ ∀ d ∈ h.engine.decoders, d = Decoder.reset) ∧
    (buildHello s.cfg port name = none → Bridge.start s rx port name = none)
end

