-- ==== Sys2Proof/Laws/State.lean ====
section
/-!
SUPPORT. One lemma per field per update of State and Decoder, so that no proof unfolds a record update.
-/

namespace Sys2Proof.Machine

/-! State.finish -/

@[simp] theorem State.finish_cfg (s : State) (o : Output) : (s.finish o).cfg = s.cfg := rfl
@[simp] theorem State.finish_decoders (s : State) (o : Output) : (s.finish o).decoders = s.decoders := rfl
@[simp] theorem State.finish_requests (s : State) (o : Output) :
    (s.finish o).requests = s.requests.drop 1 := rfl
@[simp] theorem State.finish_out (s : State) (o : Output) : (s.finish o).out = some o := rfl

/-! State.setDecoder -/

@[simp] theorem State.setDecoder_cfg (s : State) (i : Nat) (d : Decoder) :
    (s.setDecoder i d).cfg = s.cfg := rfl
@[simp] theorem State.setDecoder_decoders (s : State) (i : Nat) (d : Decoder) :
    (s.setDecoder i d).decoders = s.decoders.set i d := rfl
@[simp] theorem State.setDecoder_requests (s : State) (i : Nat) (d : Decoder) :
    (s.setDecoder i d).requests = s.requests := rfl
@[simp] theorem State.setDecoder_out (s : State) (i : Nat) (d : Decoder) :
    (s.setDecoder i d).out = s.out := rfl

/-! State.setAllDecoders -/

@[simp] theorem State.setAllDecoders_cfg (s : State) (d : Decoder) :
    (s.setAllDecoders d).cfg = s.cfg := rfl
@[simp] theorem State.setAllDecoders_decoders (s : State) (d : Decoder) :
    (s.setAllDecoders d).decoders = s.decoders.map (fun _ => d) := rfl
@[simp] theorem State.setAllDecoders_requests (s : State) (d : Decoder) :
    (s.setAllDecoders d).requests = s.requests := rfl
@[simp] theorem State.setAllDecoders_out (s : State) (d : Decoder) :
    (s.setAllDecoders d).out = s.out := rfl

/-! State.withFetchWord -/

@[simp] theorem State.withFetchWord_cfg (s : State) (nbits w : Nat) :
    (s.withFetchWord nbits w).cfg = s.cfg := by
  unfold State.withFetchWord; split <;> rfl
@[simp] theorem State.withFetchWord_decoders (s : State) (nbits w : Nat) :
    (s.withFetchWord nbits w).decoders = s.decoders := by
  unfold State.withFetchWord; split <;> rfl
@[simp] theorem State.withFetchWord_out (s : State) (nbits w : Nat) :
    (s.withFetchWord nbits w).out = s.out := by
  unfold State.withFetchWord; split <;> rfl
theorem State.withFetchWord_requests_of_ok {nbits w : Nat} {r : Request}
    (h : requestOfWord nbits w = .ok r) (s : State) :
    (s.withFetchWord nbits w).requests = r :: s.requests := by
  simp [State.withFetchWord, h]

/-! Decoder.clearBuf and Decoder.push -/

@[simp] theorem Decoder.clearBuf_rs (d : Decoder) : d.clearBuf.rs = d.rs := rfl
@[simp] theorem Decoder.clearBuf_buf0 (d : Decoder) : d.clearBuf.buf0 = 0x00 := rfl
@[simp] theorem Decoder.clearBuf_buf1 (d : Decoder) : d.clearBuf.buf1 = 0x00 := rfl
@[simp] theorem Decoder.clearBuf_n (d : Decoder) : d.clearBuf.n = 0 := rfl
@[simp] theorem Decoder.clearBuf_exp (d : Decoder) : d.clearBuf.exp = d.exp := rfl
@[simp] theorem Decoder.clearBuf_sx (d : Decoder) : d.clearBuf.sx = d.sx := rfl

@[simp] theorem Decoder.push_rs (d : Decoder) (b : Byte) : (d.push b).rs = d.rs := rfl
@[simp] theorem Decoder.push_buf0 (d : Decoder) (b : Byte) :
    (d.push b).buf0 = if d.n = 0 then b else d.buf0 := rfl
@[simp] theorem Decoder.push_buf1 (d : Decoder) (b : Byte) :
    (d.push b).buf1 = if d.n = 1 then b else d.buf1 := rfl
@[simp] theorem Decoder.push_n (d : Decoder) (b : Byte) : (d.push b).n = d.n + 1 := rfl
@[simp] theorem Decoder.push_exp (d : Decoder) (b : Byte) : (d.push b).exp = d.exp := rfl
@[simp] theorem Decoder.push_sx (d : Decoder) (b : Byte) : (d.push b).sx = d.sx := rfl

end Sys2Proof.Machine
end

