-- ==== Sys2Proof/Laws/Ops.lean ====
section
/-!
SUPPORT. What each shared operation can do, said once: the two shapes of a transaction (Machine/Ops.lean),
RESET, and one transaction presented by the host (Machine/HostPaths.lean).
-/

namespace Sys2Proof.Machine

/-- Under a valid configuration the guard is not there. -/
@[simp] theorem configured_of_configOk {s : State} (h : s.configOk = true) (r : Result) :
    configured s r = r := by simp [configured, h]

/-- The guard lets a next state through only under a valid configuration. -/
theorem configured_next {s t : State} {r : Result} (h : configured s r = .next t) :
    s.configOk = true ∧ r = .next t := by
  unfold configured at h
  split at h
  · exact ⟨‹_›, h⟩
  · cases h

/-- `configOk` reads only the configuration and how many instances there are. -/
theorem configOk_congr {s t : State} (hc : t.cfg = s.cfg) (hd : t.decoders.length = s.decoders.length) :
    t.configOk = s.configOk := by
  have h : t.decoders.isEmpty = s.decoders.isEmpty := by
    cases ht : t.decoders <;> cases hs : s.decoders <;> simp_all
  simp [State.configOk, hc, h]

/-- A stateless operation completes under a valid configuration. -/
theorem pureOp_of_configOk {s : State} (h : s.configOk = true) (o : Output) :
    pureOp s o = .next (s.finish o) := by simp [pureOp, h]

/-- All a stateless operation can do. -/
theorem pureOp_next {s t : State} {o : Output} (h : pureOp s o = .next t) :
    s.configOk = true ∧ t = s.finish o := by
  obtain ⟨hc, h⟩ := configured_next h
  exact ⟨hc, (Host.Outcome.next.inj h).symm⟩

/-- A DECODE of an instance that holds legal registers completes. -/
theorem decodeOp_of_holds {s : State} {i : Nat} {d : Decoder} (h : s.Holds i d)
    (f : Decoder → Decoder × Option Packet) :
    decodeOp i f s = .next ((s.setDecoder i (f d).1).finish (.packet (f d).2)) := by
  obtain ⟨hc, hd, hl⟩ := h
  simp [decodeOp, hc, hd, hl]

/-- All a DECODE can do. -/
theorem decodeOp_next {s t : State} {i : Nat} {f : Decoder → Decoder × Option Packet}
    (h : decodeOp i f s = .next t) :
    ∃ d, s.Holds i d ∧ t = (s.setDecoder i (f d).1).finish (.packet (f d).2) := by
  obtain ⟨hc, h⟩ := configured_next h
  split at h
  · cases h
  · rename_i d hd
    split at h
    · exact ⟨d, ⟨hc, hd, ‹_›⟩, (Host.Outcome.next.inj h).symm⟩
    · cases h

/-- All a RESET can do. -/
theorem execReset_next {s t : State} {r : ResetTarget} (h : execReset r s = .next t) :
    s.configOk = true ∧
      ((r = .all ∧ t = (s.setAllDecoders Decoder.reset).finish .resetDone) ∨
        ∃ i d, r = .one i ∧ s.decoders[i]? = some d ∧
          t = (s.setDecoder i Decoder.reset).finish .resetDone) := by
  obtain ⟨hc, h⟩ := configured_next h
  refine ⟨hc, ?_⟩
  cases r with
  | all => exact .inl ⟨rfl, (Host.Outcome.next.inj h).symm⟩
  | one i =>
    simp only at h
    split at h
    · cases h
    · rename_i d hd
      exact .inr ⟨i, d, rfl, hd, (Host.Outcome.next.inj h).symm⟩

/-- All the guard can refuse with: the configuration, or what it guards. -/
theorem configured_refused {s : State} {r : Result} {e : Refusal} (h : configured s r = .refused e) :
    (s.configOk = false ∧ e = .configInvalid) ∨ (s.configOk = true ∧ r = .refused e) := by
  unfold configured at h
  split at h
  · exact .inr ⟨‹_›, h⟩
  · cases h
    exact .inl ⟨by simp_all, rfl⟩

/-- A stateless operation is refused only for its configuration. -/
theorem pureOp_refused {s : State} {o : Output} {e : Refusal} (h : pureOp s o = .refused e) :
    s.configOk = false ∧ e = .configInvalid := by
  obtain h | ⟨-, h⟩ := configured_refused h
  · exact h
  · cases h

/-- All a DECODE is refused for: the configuration, an instance that is not held, or one that breaks
10_state.md R37. -/
theorem decodeOp_refused {s : State} {i : Nat} {f : Decoder → Decoder × Option Packet} {e : Refusal}
    (h : decodeOp i f s = .refused e) :
    (s.configOk = false ∧ e = .configInvalid) ∨
      (s.configOk = true ∧ s.decoders[i]? = none ∧ e = .noSuchInstance i) ∨
      ∃ d, s.configOk = true ∧ s.decoders[i]? = some d ∧ d.legal = false ∧ e = .decoderStateIllegal := by
  obtain h | ⟨hc, h⟩ := configured_refused h
  · exact .inl h
  · split at h
    · cases h
      exact .inr (.inl ⟨hc, ‹_›, rfl⟩)
    · rename_i d hd
      split at h <;> cases h
      exact .inr (.inr ⟨d, hc, hd, by simp_all, rfl⟩)

/-- All a RESET is refused for: the configuration, or an instance that is not held. -/
theorem execReset_refused {s : State} {r : ResetTarget} {e : Refusal} (h : execReset r s = .refused e) :
    (s.configOk = false ∧ e = .configInvalid) ∨
      ∃ i, r = .one i ∧ s.configOk = true ∧ s.decoders[i]? = none ∧ e = .noSuchInstance i := by
  obtain h | ⟨hc, h⟩ := configured_refused h
  · exact .inl h
  · cases r with
    | all => cases h
    | one i =>
      simp only at h
      split at h <;> cases h
      exact .inr ⟨i, rfl, hc, ‹_›, rfl⟩

/-- One transaction presented alone is the instruction it decodes to. -/
theorem transact_eq (s : State) (r : Request) :
    transact s r = exec (decode s.cfg r) { s with requests := [r] } := rfl

/-- Presenting the empty list does nothing. -/
@[simp] theorem present_nil (s : State) : present s [] = some (s, []) := rfl

/-- Presenting a list is presenting its first transaction and then the rest. -/
theorem present_cons {s t : State} {r : Request} (h : transact s r = .next t) (rs : List Request) :
    present s (r :: rs) = (present t rs).map (fun q => (q.1, t.out.toList ++ q.2)) := by
  simp [present, h]

/-- A list that is presented to its end was presented transaction by transaction. -/
theorem present_cons_some {s u : State} {r : Request} {rs : List Request} {os : List Output}
    (h : present s (r :: rs) = some (u, os)) :
    ∃ t os', transact s r = .next t ∧ present t rs = some (u, os') ∧ os = t.out.toList ++ os' := by
  unfold present at h
  split at h
  · rename_i t ht
    obtain ⟨q, hq, he⟩ := Option.map_eq_some_iff.mp h
    cases he
    exact ⟨t, q.2, ht, hq, rfl⟩
  · cases h

end Sys2Proof.Machine
end

