-- ==== Sys2Proof/Laws/Dispatch.lean ====
section
/-!
SUPPORT. exec, constructor by constructor: the meaning each arm calls, so that no proof unfolds the whole
match.
-/

namespace Sys2Proof.Machine

@[simp] theorem exec_data (k : Nat) (d : BitVec 7) (s : State) :
    exec (.data k d) s = execData k d s := rfl
@[simp] theorem exec_noteOff (k : Nat) (ch : Nibble) (s : State) :
    exec (.noteOff k ch) s = execNoteOff k ch s := rfl
@[simp] theorem exec_noteOn (k : Nat) (ch : Nibble) (s : State) :
    exec (.noteOn k ch) s = execNoteOn k ch s := rfl
@[simp] theorem exec_polyPressure (k : Nat) (ch : Nibble) (s : State) :
    exec (.polyPressure k ch) s = execPolyPressure k ch s := rfl
@[simp] theorem exec_controlChange (k : Nat) (ch : Nibble) (s : State) :
    exec (.controlChange k ch) s = execControlChange k ch s := rfl
@[simp] theorem exec_programChange (k : Nat) (ch : Nibble) (s : State) :
    exec (.programChange k ch) s = execProgramChange k ch s := rfl
@[simp] theorem exec_channelPressure (k : Nat) (ch : Nibble) (s : State) :
    exec (.channelPressure k ch) s = execChannelPressure k ch s := rfl
@[simp] theorem exec_pitchBend (k : Nat) (ch : Nibble) (s : State) :
    exec (.pitchBend k ch) s = execPitchBend k ch s := rfl
@[simp] theorem exec_sysexStart (k : Nat) (s : State) :
    exec (.sysexStart k) s = execSysexStart k s := rfl
@[simp] theorem exec_mtcQuarterFrame (k : Nat) (s : State) :
    exec (.mtcQuarterFrame k) s = execMtcQuarterFrame k s := rfl
@[simp] theorem exec_songPosition (k : Nat) (s : State) :
    exec (.songPosition k) s = execSongPosition k s := rfl
@[simp] theorem exec_songSelect (k : Nat) (s : State) :
    exec (.songSelect k) s = execSongSelect k s := rfl
@[simp] theorem exec_undefF4 (k : Nat) (s : State) :
    exec (.undefF4 k) s = execUndefF4 k s := rfl
@[simp] theorem exec_undefF5 (k : Nat) (s : State) :
    exec (.undefF5 k) s = execUndefF5 k s := rfl
@[simp] theorem exec_tuneRequest (k : Nat) (s : State) :
    exec (.tuneRequest k) s = execTuneRequest k s := rfl
@[simp] theorem exec_sysexEnd (k : Nat) (s : State) :
    exec (.sysexEnd k) s = execSysexEnd k s := rfl
@[simp] theorem exec_timingClock (k : Nat) (s : State) :
    exec (.timingClock k) s = execTimingClock k s := rfl
@[simp] theorem exec_undefF9 (k : Nat) (s : State) :
    exec (.undefF9 k) s = execUndefF9 k s := rfl
@[simp] theorem exec_start (k : Nat) (s : State) :
    exec (.start k) s = execStart k s := rfl
@[simp] theorem exec_continue (k : Nat) (s : State) :
    exec (.continue_ k) s = execContinue k s := rfl
@[simp] theorem exec_stop (k : Nat) (s : State) :
    exec (.stop k) s = execStop k s := rfl
@[simp] theorem exec_undefFD (k : Nat) (s : State) :
    exec (.undefFD k) s = execUndefFD k s := rfl
@[simp] theorem exec_activeSensing (k : Nat) (s : State) :
    exec (.activeSensing k) s = execActiveSensing k s := rfl
@[simp] theorem exec_systemReset (k : Nat) (s : State) :
    exec (.systemReset k) s = execSystemReset k s := rfl
@[simp] theorem exec_expMisc (cn : Nibble) (p0 p1 p2 : Byte) (s : State) :
    exec (.expMisc cn p0 p1 p2) s = execExpMisc cn p0 p1 p2 s := rfl
@[simp] theorem exec_expCableEvent (cn : Nibble) (p0 p1 p2 : Byte) (s : State) :
    exec (.expCableEvent cn p0 p1 p2) s = execExpCableEvent cn p0 p1 p2 s := rfl
@[simp] theorem exec_expSyscom2 (cn : Nibble) (p0 p1 p2 : Byte) (s : State) :
    exec (.expSyscom2 cn p0 p1 p2) s = execExpSyscom2 cn p0 p1 p2 s := rfl
@[simp] theorem exec_expSyscom3 (cn : Nibble) (p0 p1 p2 : Byte) (s : State) :
    exec (.expSyscom3 cn p0 p1 p2) s = execExpSyscom3 cn p0 p1 p2 s := rfl
@[simp] theorem exec_expSysex (cn : Nibble) (p0 p1 p2 : Byte) (s : State) :
    exec (.expSysex cn p0 p1 p2) s = execExpSysex cn p0 p1 p2 s := rfl
@[simp] theorem exec_expSingleOrSxend1 (cn : Nibble) (p0 p1 p2 : Byte) (s : State) :
    exec (.expSingleOrSxend1 cn p0 p1 p2) s = execExpSingleOrSxend1 cn p0 p1 p2 s := rfl
@[simp] theorem exec_expSxend2 (cn : Nibble) (p0 p1 p2 : Byte) (s : State) :
    exec (.expSxend2 cn p0 p1 p2) s = execExpSxend2 cn p0 p1 p2 s := rfl
@[simp] theorem exec_expSxend3 (cn : Nibble) (p0 p1 p2 : Byte) (s : State) :
    exec (.expSxend3 cn p0 p1 p2) s = execExpSxend3 cn p0 p1 p2 s := rfl
@[simp] theorem exec_expNoteOff (cn : Nibble) (p0 p1 p2 : Byte) (s : State) :
    exec (.expNoteOff cn p0 p1 p2) s = execExpNoteOff cn p0 p1 p2 s := rfl
@[simp] theorem exec_expNoteOn (cn : Nibble) (p0 p1 p2 : Byte) (s : State) :
    exec (.expNoteOn cn p0 p1 p2) s = execExpNoteOn cn p0 p1 p2 s := rfl
@[simp] theorem exec_expPolyPressure (cn : Nibble) (p0 p1 p2 : Byte) (s : State) :
    exec (.expPolyPressure cn p0 p1 p2) s = execExpPolyPressure cn p0 p1 p2 s := rfl
@[simp] theorem exec_expControlChange (cn : Nibble) (p0 p1 p2 : Byte) (s : State) :
    exec (.expControlChange cn p0 p1 p2) s = execExpControlChange cn p0 p1 p2 s := rfl
@[simp] theorem exec_expProgramChange (cn : Nibble) (p0 p1 p2 : Byte) (s : State) :
    exec (.expProgramChange cn p0 p1 p2) s = execExpProgramChange cn p0 p1 p2 s := rfl
@[simp] theorem exec_expChannelPressure (cn : Nibble) (p0 p1 p2 : Byte) (s : State) :
    exec (.expChannelPressure cn p0 p1 p2) s = execExpChannelPressure cn p0 p1 p2 s := rfl
@[simp] theorem exec_expPitchBend (cn : Nibble) (p0 p1 p2 : Byte) (s : State) :
    exec (.expPitchBend cn p0 p1 p2) s = execExpPitchBend cn p0 p1 p2 s := rfl
@[simp] theorem exec_expSingleByte (cn : Nibble) (p0 p1 p2 : Byte) (s : State) :
    exec (.expSingleByte cn p0 p1 p2) s = execExpSingleByte cn p0 p1 p2 s := rfl
@[simp] theorem exec_parseEvent (payload : ByteString) (s : State) :
    exec (.parseEvent payload) s = execParseEvent payload s := rfl
@[simp] theorem exec_parseGoodbye (rest : ByteString) (s : State) :
    exec (.parseGoodbye rest) s = execParseGoodbye rest s := rfl
@[simp] theorem exec_parseOther (d : ByteString) (s : State) :
    exec (.parseOther d) s = execParseOther d s := rfl
@[simp] theorem exec_hexEncode (v : Word) (s : State) :
    exec (.hexEncode v) s = execHexEncode v s := rfl
@[simp] theorem exec_hexDecode (str : ByteString) (s : State) :
    exec (.hexDecode str) s = execHexDecode str s := rfl
@[simp] theorem exec_buildHello (port : BitVec 16) (name : ByteString) (s : State) :
    exec (.buildHello port name) s = execBuildHello port name s := rfl
@[simp] theorem exec_buildEvent (p : Packet) (s : State) :
    exec (.buildEvent p) s = execBuildEvent p s := rfl
@[simp] theorem exec_buildGoodbye (s : State) :
    exec (.buildGoodbye) s = execBuildGoodbye s := rfl
@[simp] theorem exec_reset (t : ResetTarget) (s : State) :
    exec (.reset t) s = execReset t s := rfl

end Sys2Proof.Machine
end

