-- ==== Sys2Proof/Laws/Formats.lean ====
section
/-!
SUPPORT. The fields of assembled operands, the status table's cases, prefixes and hex digits: one small
lemma per definition of Machine/Formats.lean, Machine/Operands.lean and Machine/HexCodec.lean.
-/

namespace Sys2Proof.Machine

/-! Packets (30_encoding.md R94) -/

@[simp] theorem cableOfPacket_packetOf (cn cin : Nibble) (p0 p1 p2 : Byte) :
    cableOfPacket (packetOf cn cin p0 p1 p2) = cn := by
  unfold cableOfPacket packetOf
  ext k hk
  simp only [BitVec.getElem_extractLsb', BitVec.getLsbD_append]
  have h1 : ¬ (28 + k < 8) := by omega
  have h2 : ¬ (28 + k - 8 < 8) := by omega
  have h3 : ¬ (28 + k - 8 - 8 < 8) := by omega
  have h4 : ¬ (28 + k - 8 - 8 - 8 < 4) := by omega
  simp only [h1, h2, h3, h4, if_false]
  rw [show 28 + k - 8 - 8 - 8 - 4 = k by omega, BitVec.getLsbD_eq_getElem hk]

@[simp] theorem cinOfPacket_packetOf (cn cin : Nibble) (p0 p1 p2 : Byte) :
    cinOfPacket (packetOf cn cin p0 p1 p2) = cin := by
  unfold cinOfPacket packetOf
  ext k hk
  simp only [BitVec.getElem_extractLsb', BitVec.getLsbD_append]
  have h1 : ¬ (24 + k < 8) := by omega
  have h2 : ¬ (24 + k - 8 < 8) := by omega
  have h3 : ¬ (24 + k - 8 - 8 < 8) := by omega
  have h4 : 24 + k - 8 - 8 - 8 < 4 := by omega
  simp only [h1, h2, h3, h4, if_false, if_true]
  rw [show 24 + k - 8 - 8 - 8 = k by omega, BitVec.getLsbD_eq_getElem hk]

@[simp] theorem lane0_packetOf (cn cin : Nibble) (p0 p1 p2 : Byte) :
    lane0 (packetOf cn cin p0 p1 p2) = p0 := by
  unfold lane0 packetOf
  ext k hk
  simp only [BitVec.getElem_extractLsb', BitVec.getLsbD_append]
  have h1 : ¬ (16 + k < 8) := by omega
  have h2 : ¬ (16 + k - 8 < 8) := by omega
  have h3 : 16 + k - 8 - 8 < 8 := by omega
  simp only [h1, h2, h3, if_false, if_true]
  rw [show 16 + k - 8 - 8 = k by omega, BitVec.getLsbD_eq_getElem hk]

@[simp] theorem lane1_packetOf (cn cin : Nibble) (p0 p1 p2 : Byte) :
    lane1 (packetOf cn cin p0 p1 p2) = p1 := by
  unfold lane1 packetOf
  ext k hk
  simp only [BitVec.getElem_extractLsb', BitVec.getLsbD_append]
  have h1 : ¬ (8 + k < 8) := by omega
  have h2 : 8 + k - 8 < 8 := by omega
  simp only [h1, h2, if_false, if_true]
  rw [show 8 + k - 8 = k by omega, BitVec.getLsbD_eq_getElem hk]

@[simp] theorem lane2_packetOf (cn cin : Nibble) (p0 p1 p2 : Byte) :
    lane2 (packetOf cn cin p0 p1 p2) = p2 := by
  unfold lane2 packetOf
  ext k hk
  simp only [BitVec.getElem_extractLsb', BitVec.getLsbD_append]
  have h1 : 0 + k < 8 := by omega
  simp only [h1, if_true]
  rw [show 0 + k = k by omega, BitVec.getLsbD_eq_getElem hk]

/-- A packet is its five fields. -/
theorem packetOf_fields (p : Packet) :
    packetOf (cableOfPacket p) (cinOfPacket p) (lane0 p) (lane1 p) (lane2 p) = p := by
  unfold packetOf cableOfPacket cinOfPacket lane0 lane1 lane2
  apply BitVec.eq_of_getLsbD_eq
  intro k hk
  simp only [BitVec.getLsbD_append, BitVec.getLsbD_extractLsb']
  by_cases h1 : k < 8
  · simp [h1]
  · by_cases h2 : k - 8 < 8
    · simp only [h1, h2, if_false, if_true, decide_true, Bool.true_and]
      rw [show 8 + (k - 8) = k by omega]
    · by_cases h3 : k - 8 - 8 < 8
      · simp only [h1, h2, h3, if_false, if_true, decide_true, Bool.true_and]
        rw [show 16 + (k - 8 - 8) = k by omega]
      · by_cases h4 : k - 8 - 8 - 8 < 4
        · simp only [h1, h2, h3, h4, if_false, if_true, decide_true, Bool.true_and]
          rw [show 24 + (k - 8 - 8 - 8) = k by omega]
        · have h5 : k - 8 - 8 - 8 - 4 < 4 := by omega
          simp only [h1, h2, h3, h4, h5, if_false, decide_true, Bool.true_and]
          rw [show 28 + (k - 8 - 8 - 8 - 4) = k by omega]

/-- The packet of the decoder is the packet of its fields. -/
theorem mkPacket_eq (cable cin : Nibble) (p0 p1 p2 : Byte) :
    mkPacket cable cin p0 p1 p2 = packetOf cable cin p0 p1 p2 := rfl

/-! Stream bytes (R90) -/

@[simp] theorem highNibble_voiceStatus (kind ch : Nibble) : highNibble (voiceStatus kind ch) = kind := by
  revert kind ch; decide

@[simp] theorem lowNibble_voiceStatus (kind ch : Nibble) : lowNibble (voiceStatus kind ch) = ch := by
  revert kind ch; decide

/-- A stream byte is its two nibbles. -/
theorem voiceStatus_nibbles (b : Byte) : voiceStatus (highNibble b) (lowNibble b) = b := by
  revert b; decide

/-- A data byte is its low seven bits. -/
theorem dataByteOf_extract {b : Byte} (h : classOf b = .data) : dataByteOf (b.extractLsb' 0 7) = b := by
  revert b; decide

/-- The low seven bits of a data byte made from them. -/
@[simp] theorem extract_dataByteOf (v : BitVec 7) : (dataByteOf v).extractLsb' 0 7 = v := by
  revert v; decide

/-- A byte made from seven bits is a data byte. -/
@[simp] theorem classOf_dataByteOf (v : BitVec 7) : classOf (dataByteOf v) = .data := by
  revert v; decide

/-! Prefixes (R97 to R99) -/

@[simp] theorem eventPrefix_length (app : ByteString) : (eventPrefix app).length = app.length + 12 := by
  simp [eventPrefix, appPrefix]

@[simp] theorem byePrefix_length (app : ByteString) : (byePrefix app).length = app.length + 8 := by
  simp [byePrefix, appPrefix]

@[simp] theorem helloHeader_length (app : ByteString) : (helloHeader app).length = app.length + 12 := by
  simp [helloHeader, appPrefix]

/-- A datagram matches the prefix it is built from. -/
@[simp] theorem matchPrefix_append (x rest : ByteString) : matchPrefix (x ++ rest) x = true := by
  simp [matchPrefix]

/-- A datagram that matches a prefix is that prefix and the bytes after it. -/
theorem append_drop_of_matchPrefix {d x : ByteString} (h : matchPrefix d x = true) :
    x ++ d.drop x.length = d := by
  simp only [matchPrefix, Bool.and_eq_true, decide_eq_true_eq, beq_iff_eq] at h
  conv_rhs => rw [← List.take_append_drop x.length d, h.2]

/-! Operands and hex strings (R97, R101, R96) -/

@[simp] theorem be32_length (v : Word) : (be32 v).length = 4 := rfl

@[simp] theorem portField_length (port : BitVec 16) : (portField port).length = 4 := rfl

@[simp] theorem nameField_length (name : ByteString) :
    (nameField name).length = nameFieldLength name := by
  simp [nameField, nameFieldLength]; omega

@[simp] theorem hexEncode_length (v : Word) : (hexEncode v).length = 8 := by simp [hexEncode]

/-- A digit's character decodes to the digit, with uppercase accepted or not. -/
@[simp] theorem nibbleOf_hexDigit (upper : Bool) (x : Nibble) : nibbleOf upper (hexDigit x) = some x := by
  revert upper x; decide

/-- The decoder's loop over a list in two parts. -/
theorem hexAccumulate_append (upper : Bool) (v : Word) (s t : ByteString) :
    hexAccumulate upper v (s ++ t) = (hexAccumulate upper v s).bind (hexAccumulate upper · t) := by
  induction s generalizing v with
  | nil => rfl
  | cons ch s ih =>
    simp only [List.cons_append, hexAccumulate]
    cases nibbleOf upper ch with
    | none => rfl
    | some x => exact ih _

end Sys2Proof.Machine
end

