-- ==== Sys2Proof/Laws/PerInstr.lean ====
section
/-!
SUPPORT. The per-instruction family EncodePort (LAWS.json): the transaction that presents an instruction
is presented on the port of the instruction's row (the `unit` column of spec/opcode_table.json).
-/

namespace Sys2Proof.Laws

/-- An instruction is presented on its own port, under every configuration. -/
def EncodePort.Statement (x : Instr) : Prop := ∀ c : Config, (encode c x).port = x.port

theorem EncodePort.data (i : Nat) (d : BitVec 7) :
    EncodePort.Statement (.data i d) := fun _ => rfl
theorem EncodePort.noteOff (i : Nat) (ch : Nibble) :
    EncodePort.Statement (.noteOff i ch) := fun _ => rfl
theorem EncodePort.noteOn (i : Nat) (ch : Nibble) :
    EncodePort.Statement (.noteOn i ch) := fun _ => rfl
theorem EncodePort.polyPressure (i : Nat) (ch : Nibble) :
    EncodePort.Statement (.polyPressure i ch) := fun _ => rfl
theorem EncodePort.controlChange (i : Nat) (ch : Nibble) :
    EncodePort.Statement (.controlChange i ch) := fun _ => rfl
theorem EncodePort.programChange (i : Nat) (ch : Nibble) :
    EncodePort.Statement (.programChange i ch) := fun _ => rfl
theorem EncodePort.channelPressure (i : Nat) (ch : Nibble) :
    EncodePort.Statement (.channelPressure i ch) := fun _ => rfl
theorem EncodePort.pitchBend (i : Nat) (ch : Nibble) :
    EncodePort.Statement (.pitchBend i ch) := fun _ => rfl
theorem EncodePort.sysexStart (i : Nat) :
    EncodePort.Statement (.sysexStart i) := fun _ => rfl
theorem EncodePort.mtcQuarterFrame (i : Nat) :
    EncodePort.Statement (.mtcQuarterFrame i) := fun _ => rfl
theorem EncodePort.songPosition (i : Nat) :
    EncodePort.Statement (.songPosition i) := fun _ => rfl
theorem EncodePort.songSelect (i : Nat) :
    EncodePort.Statement (.songSelect i) := fun _ => rfl
theorem EncodePort.undefF4 (i : Nat) :
    EncodePort.Statement (.undefF4 i) := fun _ => rfl
theorem EncodePort.undefF5 (i : Nat) :
    EncodePort.Statement (.undefF5 i) := fun _ => rfl
theorem EncodePort.tuneRequest (i : Nat) :
    EncodePort.Statement (.tuneRequest i) := fun _ => rfl
theorem EncodePort.sysexEnd (i : Nat) :
    EncodePort.Statement (.sysexEnd i) := fun _ => rfl
theorem EncodePort.timingClock (i : Nat) :
    EncodePort.Statement (.timingClock i) := fun _ => rfl
theorem EncodePort.undefF9 (i : Nat) :
    EncodePort.Statement (.undefF9 i) := fun _ => rfl
theorem EncodePort.start (i : Nat) :
    EncodePort.Statement (.start i) := fun _ => rfl
theorem EncodePort.continue_ (i : Nat) :
    EncodePort.Statement (.continue_ i) := fun _ => rfl
theorem EncodePort.stop (i : Nat) :
    EncodePort.Statement (.stop i) := fun _ => rfl
theorem EncodePort.undefFD (i : Nat) :
    EncodePort.Statement (.undefFD i) := fun _ => rfl
theorem EncodePort.activeSensing (i : Nat) :
    EncodePort.Statement (.activeSensing i) := fun _ => rfl
theorem EncodePort.systemReset (i : Nat) :
    EncodePort.Statement (.systemReset i) := fun _ => rfl
theorem EncodePort.expMisc (cn : Nibble) (p0 p1 p2 : Byte) :
    EncodePort.Statement (.expMisc cn p0 p1 p2) := fun _ => rfl
theorem EncodePort.expCableEvent (cn : Nibble) (p0 p1 p2 : Byte) :
    EncodePort.Statement (.expCableEvent cn p0 p1 p2) := fun _ => rfl
theorem EncodePort.expSyscom2 (cn : Nibble) (p0 p1 p2 : Byte) :
    EncodePort.Statement (.expSyscom2 cn p0 p1 p2) := fun _ => rfl
theorem EncodePort.expSyscom3 (cn : Nibble) (p0 p1 p2 : Byte) :
    EncodePort.Statement (.expSyscom3 cn p0 p1 p2) := fun _ => rfl
theorem EncodePort.expSysex (cn : Nibble) (p0 p1 p2 : Byte) :
    EncodePort.Statement (.expSysex cn p0 p1 p2) := fun _ => rfl
theorem EncodePort.expSingleOrSxend1 (cn : Nibble) (p0 p1 p2 : Byte) :
    EncodePort.Statement (.expSingleOrSxend1 cn p0 p1 p2) := fun _ => rfl
theorem EncodePort.expSxend2 (cn : Nibble) (p0 p1 p2 : Byte) :
    EncodePort.Statement (.expSxend2 cn p0 p1 p2) := fun _ => rfl
theorem EncodePort.expSxend3 (cn : Nibble) (p0 p1 p2 : Byte) :
    EncodePort.Statement (.expSxend3 cn p0 p1 p2) := fun _ => rfl
theorem EncodePort.expNoteOff (cn : Nibble) (p0 p1 p2 : Byte) :
    EncodePort.Statement (.expNoteOff cn p0 p1 p2) := fun _ => rfl
theorem EncodePort.expNoteOn (cn : Nibble) (p0 p1 p2 : Byte) :
    EncodePort.Statement (.expNoteOn cn p0 p1 p2) := fun _ => rfl
theorem EncodePort.expPolyPressure (cn : Nibble) (p0 p1 p2 : Byte) :
    EncodePort.Statement (.expPolyPressure cn p0 p1 p2) := fun _ => rfl
theorem EncodePort.expControlChange (cn : Nibble) (p0 p1 p2 : Byte) :
    EncodePort.Statement (.expControlChange cn p0 p1 p2) := fun _ => rfl
theorem EncodePort.expProgramChange (cn : Nibble) (p0 p1 p2 : Byte) :
    EncodePort.Statement (.expProgramChange cn p0 p1 p2) := fun _ => rfl
theorem EncodePort.expChannelPressure (cn : Nibble) (p0 p1 p2 : Byte) :
    EncodePort.Statement (.expChannelPressure cn p0 p1 p2) := fun _ => rfl
theorem EncodePort.expPitchBend (cn : Nibble) (p0 p1 p2 : Byte) :
    EncodePort.Statement (.expPitchBend cn p0 p1 p2) := fun _ => rfl
theorem EncodePort.expSingleByte (cn : Nibble) (p0 p1 p2 : Byte) :
    EncodePort.Statement (.expSingleByte cn p0 p1 p2) := fun _ => rfl
theorem EncodePort.parseEvent (payload : ByteString) :
    EncodePort.Statement (.parseEvent payload) := fun _ => rfl
theorem EncodePort.parseGoodbye (rest : ByteString) :
    EncodePort.Statement (.parseGoodbye rest) := fun _ => rfl
theorem EncodePort.parseOther (d : ByteString) :
    EncodePort.Statement (.parseOther d) := fun _ => rfl
theorem EncodePort.hexEncode (v : Word) :
    EncodePort.Statement (.hexEncode v) := fun _ => rfl
theorem EncodePort.hexDecode (s : ByteString) :
    EncodePort.Statement (.hexDecode s) := fun _ => rfl
theorem EncodePort.buildHello (port : BitVec 16) (name : ByteString) :
    EncodePort.Statement (.buildHello port name) := fun _ => rfl
theorem EncodePort.buildEvent (p : Packet) :
    EncodePort.Statement (.buildEvent p) := fun _ => rfl
theorem EncodePort.buildGoodbye :
    EncodePort.Statement (.buildGoodbye) := fun _ => rfl
theorem EncodePort.reset (t : ResetTarget) :
    EncodePort.Statement (.reset t) := fun _ => rfl

end Sys2Proof.Laws
end

