-- ==== Sys2Proof/Tests/Slice0.lean ====
section
/-!
SUPPORT. Tests: every row's decoding from a word of the spec's encoding, the WellFormed smoke tests, one
step per row from the vectors of 95_test_vectors.md, and a witness for the hypotheses of each statement.
-/

namespace Sys2Proof.Tests

open Sys2Proof Sys2Proof.Machine

/-! ## Decoding, word by word (30_encoding.md R90 to R99, the match and mask columns) -/

theorem test_decode_data : decodeTableWord 8 0x40 = some (.data 0 0x40) := by decide
theorem test_decode_data_top : decodeTableWord 8 0x7F = some (.data 0 0x7F) := by decide
theorem test_decode_note_off : decodeTableWord 8 0x8F = some (.noteOff 0 0xF) := by decide
theorem test_decode_note_on : decodeTableWord 8 0x90 = some (.noteOn 0 0x0) := by decide
theorem test_decode_poly_pressure : decodeTableWord 8 0xA2 = some (.polyPressure 0 0x2) := by decide
theorem test_decode_control_change : decodeTableWord 8 0xB1 = some (.controlChange 0 0x1) := by decide
theorem test_decode_program_change : decodeTableWord 8 0xC5 = some (.programChange 0 0x5) := by decide
theorem test_decode_channel_pressure : decodeTableWord 8 0xD9 = some (.channelPressure 0 0x9) := by decide
theorem test_decode_pitch_bend : decodeTableWord 8 0xEE = some (.pitchBend 0 0xE) := by decide
theorem test_decode_sysex_start : decodeTableWord 8 0xF0 = some (.sysexStart 0) := by decide
theorem test_decode_mtc_quarter_frame : decodeTableWord 8 0xF1 = some (.mtcQuarterFrame 0) := by decide
theorem test_decode_song_position : decodeTableWord 8 0xF2 = some (.songPosition 0) := by decide
theorem test_decode_song_select : decodeTableWord 8 0xF3 = some (.songSelect 0) := by decide
theorem test_decode_undef_f4 : decodeTableWord 8 0xF4 = some (.undefF4 0) := by decide
theorem test_decode_undef_f5 : decodeTableWord 8 0xF5 = some (.undefF5 0) := by decide
theorem test_decode_tune_request : decodeTableWord 8 0xF6 = some (.tuneRequest 0) := by decide
theorem test_decode_sysex_end : decodeTableWord 8 0xF7 = some (.sysexEnd 0) := by decide
theorem test_decode_timing_clock : decodeTableWord 8 0xF8 = some (.timingClock 0) := by decide
theorem test_decode_undef_f9 : decodeTableWord 8 0xF9 = some (.undefF9 0) := by decide
theorem test_decode_start : decodeTableWord 8 0xFA = some (.start 0) := by decide
theorem test_decode_continue : decodeTableWord 8 0xFB = some (.continue_ 0) := by decide
theorem test_decode_stop : decodeTableWord 8 0xFC = some (.stop 0) := by decide
theorem test_decode_undef_fd : decodeTableWord 8 0xFD = some (.undefFD 0) := by decide
theorem test_decode_active_sensing : decodeTableWord 8 0xFE = some (.activeSensing 0) := by decide
theorem test_decode_system_reset : decodeTableWord 8 0xFF = some (.systemReset 0) := by decide
theorem test_decode_expMisc : decodeTableWord 32 0x20103C64 = some (.expMisc 0x2 0x10 0x3C 0x64) := by decide
theorem test_decode_expCableEvent : decodeTableWord 32 0x21103C64 = some (.expCableEvent 0x2 0x10 0x3C 0x64) := by decide
theorem test_decode_expSyscom2 : decodeTableWord 32 0x22103C64 = some (.expSyscom2 0x2 0x10 0x3C 0x64) := by decide
theorem test_decode_expSyscom3 : decodeTableWord 32 0x23103C64 = some (.expSyscom3 0x2 0x10 0x3C 0x64) := by decide
theorem test_decode_expSysex : decodeTableWord 32 0x24103C64 = some (.expSysex 0x2 0x10 0x3C 0x64) := by decide
theorem test_decode_expSingleOrSxend1 : decodeTableWord 32 0x25103C64 = some (.expSingleOrSxend1 0x2 0x10 0x3C 0x64) := by decide
theorem test_decode_expSxend2 : decodeTableWord 32 0x26103C64 = some (.expSxend2 0x2 0x10 0x3C 0x64) := by decide
theorem test_decode_expSxend3 : decodeTableWord 32 0x27103C64 = some (.expSxend3 0x2 0x10 0x3C 0x64) := by decide
theorem test_decode_expNoteOff : decodeTableWord 32 0x28103C64 = some (.expNoteOff 0x2 0x10 0x3C 0x64) := by decide
theorem test_decode_expNoteOn : decodeTableWord 32 0x29103C64 = some (.expNoteOn 0x2 0x10 0x3C 0x64) := by decide
theorem test_decode_expPolyPressure : decodeTableWord 32 0x2A103C64 = some (.expPolyPressure 0x2 0x10 0x3C 0x64) := by decide
theorem test_decode_expControlChange : decodeTableWord 32 0x2B103C64 = some (.expControlChange 0x2 0x10 0x3C 0x64) := by decide
theorem test_decode_expProgramChange : decodeTableWord 32 0x2C103C64 = some (.expProgramChange 0x2 0x10 0x3C 0x64) := by decide
theorem test_decode_expChannelPressure : decodeTableWord 32 0x2D103C64 = some (.expChannelPressure 0x2 0x10 0x3C 0x64) := by decide
theorem test_decode_expPitchBend : decodeTableWord 32 0x2E103C64 = some (.expPitchBend 0x2 0x10 0x3C 0x64) := by decide
theorem test_decode_expSingleByte : decodeTableWord 32 0x2F103C64 = some (.expSingleByte 0x2 0x10 0x3C 0x64) := by decide

/-- EVENT_PREFIX of R98 for APP "osc2midi", the 20 bytes the rule writes out. -/
def evp : ByteString :=
  [0x2F, 0x6F, 0x73, 0x63, 0x32, 0x6D, 0x69, 0x64, 0x69, 0x2F, 0x65, 0x76, 0x65, 0x6E, 0x74, 0x00,
    0x2C, 0x73, 0x00, 0x00]

/-- The goodbye datagram of R99, 16 bytes. -/
def bye : ByteString :=
  [0x2F, 0x6F, 0x73, 0x63, 0x32, 0x6D, 0x69, 0x64, 0x69, 0x2F, 0x62, 0x79, 0x65, 0x00, 0x00, 0x00]

/-- The hello datagram of R250 for port 50000 and "Bridge", 32 bytes. -/
def helloBridge : ByteString :=
  [0x2F, 0x6F, 0x73, 0x63, 0x32, 0x6D, 0x69, 0x64, 0x69, 0x2F, 0x68, 0x65, 0x6C, 0x6C, 0x6F, 0x00,
    0x2C, 0x69, 0x73, 0x00, 0x00, 0x00, 0xC3, 0x50, 0x42, 0x72, 0x69, 0x64, 0x67, 0x65, 0x00, 0x00]

/-- "09903c64" (R230). -/
def hex1 : ByteString := [0x30, 0x39, 0x39, 0x30, 0x33, 0x63, 0x36, 0x34]

theorem test_decode_parse_event :
    decode Config.reference (.parse (evp ++ hex1)) = .parseEvent hex1 := by decide
theorem test_decode_parse_goodbye :
    decode Config.reference (.parse (bye ++ [0x00])) = .parseGoodbye [0x00] := by decide
theorem test_decode_parse_other :
    decode Config.reference (.parse helloBridge) = .parseOther helloBridge := by decide
theorem test_decode_hex_encode : decode Config.reference (.hexEncode 1) = .hexEncode 1 := by decide
theorem test_decode_hex_decode : decode Config.reference (.hexDecode hex1) = .hexDecode hex1 := by decide
theorem test_decode_build_hello :
    decode Config.reference (.buildHello 9000 []) = .buildHello 9000 [] := by decide
theorem test_decode_build_event : decode Config.reference (.buildEvent 1) = .buildEvent 1 := by decide
theorem test_decode_build_goodbye : decode Config.reference .buildGoodbye = .buildGoodbye := by decide
theorem test_decode_reset : decode Config.reference (.reset .all) = .reset .all := by decide
theorem test_decode_rejects_width : decodeWord 16 0 = .error (.noPortOfWidth 16) := by rfl

/-! ## WellFormed: an ill-formed term for each check, refused -/

theorem test_wf_data : (Instr.data 0 0x40).wf Config.reference 1 = true := by decide
theorem test_wf_refuses_instance : (Instr.noteOn 1 0).wf Config.reference 1 = false := by decide
theorem test_wf_refuses_reset_instance :
    (Instr.reset (.one 2)).wf Config.reference 2 = false := by decide
theorem test_wf_refuses_event_as_other : (Instr.parseOther evp).wf Config.reference 1 = false := by decide
theorem test_wf_refuses_goodbye_as_other :
    (Instr.parseOther bye).wf Config.reference 1 = false := by decide

/-! ## One step per row (95_test_vectors.md L2 and L3) -/

/-- A state whose instance 0 holds these registers, as the vectors write them. -/
def at_ (rs : Byte) (exp n : BitVec 2) (buf0 buf1 : Byte) (sx : Bool) : State :=
  { State.reset with decoders := [{ rs := rs, exp := exp, n := n, buf0 := buf0, buf1 := buf1, sx := sx }] }

/-- The next state, if there is one. -/
def nextOf : Result → Option State
  | .next t => some t
  | _ => none

/-- One transaction: the result and the decoder instances after it. -/
def view (s : State) (r : Request) : Option (Option Output × List Decoder) :=
  (nextOf (transact s r)).map (fun t => (t.out, t.decoders))

/-- One DECODE on instance 0. -/
def dec (s : State) (b : Byte) : Option (Option Output × List Decoder) := view s (.decode 0 b)

/-- What the vectors expect of a DECODE: the packet, and the registers after. -/
def gives (p : Option Packet) (s : State) : Option (Option Output × List Decoder) :=
  some (some (.packet p), s.decoders)

/-- The reset state of the vectors. -/
def r0 : State := at_ 0x00 0 0 0x00 0x00 false

-- DATA: P1 rows 2 and 3, L1.3
theorem test_data_buffers : dec (at_ 0x90 2 0 0 0 false) 0x3C = gives none (at_ 0x90 2 1 0x3C 0 false) := by decide
theorem test_data_flushes_sysex :
    dec (at_ 0xF0 0 2 0xF0 0x01 true) 0x02 = gives (some 0x04F00102) (at_ 0xF0 0 0 0 0 true) := by decide
theorem test_note_off_replaces_partial :
    dec (at_ 0x90 2 1 0x3C 0 false) 0x80 = gives none (at_ 0x80 2 0 0 0 false) := by decide
theorem test_note_on_aborts_sysex :
    dec (at_ 0xF0 0 2 0x03 0x04 true) 0x90 = gives none (at_ 0x90 2 0 0 0 false) := by decide
theorem test_poly_pressure :
    dec (r0) 0xA2 = gives none (at_ 0xA2 2 0 0 0 false) := by decide
theorem test_control_change_replaces_partial :
    dec (at_ 0x90 2 1 0x3C 0 false) 0xB0 = gives none (at_ 0xB0 2 0 0 0 false) := by decide
theorem test_program_change :
    dec (r0) 0xC5 = gives none (at_ 0xC5 1 0 0 0 false) := by decide
theorem test_channel_pressure :
    dec (r0) 0xD0 = gives none (at_ 0xD0 1 0 0 0 false) := by decide
theorem test_pitch_bend :
    dec (r0) 0xE0 = gives none (at_ 0xE0 2 0 0 0 false) := by decide
theorem test_sysex_start_restarts :
    dec (at_ 0xF0 0 2 0xF0 0x01 true) 0xF0 = gives none (at_ 0xF0 0 1 0xF0 0 true) := by decide
theorem test_mtc_quarter_frame :
    dec (r0) 0xF1 = gives none (at_ 0xF1 1 0 0 0 false) := by decide
theorem test_song_position :
    dec (r0) 0xF2 = gives none (at_ 0xF2 2 0 0 0 false) := by decide
theorem test_song_select :
    dec (r0) 0xF3 = gives none (at_ 0xF3 1 0 0 0 false) := by decide
theorem test_undef_f4 :
    dec (r0) 0xF4 = gives (some 0x05F40000) (at_ 0xF4 0 0 0 0 false) := by decide
theorem test_undef_f5 :
    dec (r0) 0xF5 = gives (some 0x05F50000) (at_ 0xF5 0 0 0 0 false) := by decide
theorem test_tune_request_aborts_sysex :
    dec (at_ 0xF0 0 2 0x03 0x04 true) 0xF6 = gives (some 0x05F60000) (at_ 0xF6 0 0 0 0 false) := by decide
theorem test_sysex_end_three :
    dec (at_ 0xF0 0 2 0x09 0x01 true) 0xF7 = gives (some 0x070901F7) (r0) := by decide
theorem test_sysex_end_stray :
    dec (at_ 0x90 2 1 0x3C 0 false) 0xF7 = gives none (r0) := by decide
theorem test_timing_clock_in_sysex :
    dec (at_ 0xF0 0 2 0xF0 0x01 true) 0xF8 = gives (some 0x0FF80000) (at_ 0xF0 0 2 0xF0 0x01 true) := by decide
theorem test_undef_f9 :
    dec (r0) 0xF9 = gives (some 0x0FF90000) (r0) := by decide
theorem test_start_in_message :
    dec (at_ 0x90 2 1 0x3C 0 false) 0xFA = gives (some 0x0FFA0000) (at_ 0x90 2 1 0x3C 0 false) := by decide
theorem test_continue :
    dec (r0) 0xFB = gives (some 0x0FFB0000) (r0) := by decide
theorem test_stop :
    dec (r0) 0xFC = gives (some 0x0FFC0000) (r0) := by decide
theorem test_undef_fd :
    dec (r0) 0xFD = gives (some 0x0FFD0000) (r0) := by decide
theorem test_active_sensing :
    dec (r0) 0xFE = gives (some 0x0FFE0000) (r0) := by decide
theorem test_system_reset_resets_nothing :
    dec (at_ 0x90 2 1 0x3C 0 false) 0xFF = gives (some 0x0FFF0000) (at_ 0x90 2 1 0x3C 0 false) := by decide

-- running status, a one-byte kind (L2.2), and the cable in the tag (the note after L2.2)
theorem test_running_status :
    dec (at_ 0xC5 1 0 0 0 false) 0x08 = gives (some 0x0CC50800) (at_ 0xC5 1 0 0 0 false) := by decide
theorem test_cable_in_tag :
    (view { at_ 0x90 2 1 0x3C 0 false with cfg := { Config.reference with cable := 3 } }
      (.decode 0 0x64)).map Prod.fst = some (some (.packet (some 0x39903C64))) := by decide

/-- One EXPAND (L2.3). -/
def expd (p : Packet) : Option Output := (view State.reset (.expand p)).bind Prod.fst

theorem test_expand_misc : expd 0x00010203 = some (.expanded 0 0 0 0) := by decide
theorem test_expand_cable_event : expd 0x01903C64 = some (.expanded 0 0 0 0) := by decide
theorem test_expand_syscom2 : expd 0x02F12300 = some (.expanded 2 0xF1 0x23 0) := by decide
theorem test_expand_syscom3 : expd 0x03F21020 = some (.expanded 3 0xF2 0x10 0x20) := by decide
theorem test_expand_sysex : expd 0x04F07E7F = some (.expanded 3 0xF0 0x7E 0x7F) := by decide
theorem test_expand_single_or_sxend1 : expd 0x05F70000 = some (.expanded 1 0xF7 0 0) := by decide
theorem test_expand_sxend2 : expd 0x0601F700 = some (.expanded 2 0x01 0xF7 0) := by decide
theorem test_expand_sxend3 : expd 0x070102F7 = some (.expanded 3 0x01 0x02 0xF7) := by decide
theorem test_expand_note_off : expd 0x08803C40 = some (.expanded 3 0x80 0x3C 0x40) := by decide
theorem test_expand_note_on_other_cable : expd 0xF9903C64 = some (.expanded 3 0x90 0x3C 0x64) := by decide
theorem test_expand_poly_pressure : expd 0x0AA24010 = some (.expanded 3 0xA2 0x40 0x10) := by decide
theorem test_expand_control_change : expd 0x0BB0077F = some (.expanded 3 0xB0 0x07 0x7F) := by decide
theorem test_expand_program_change_unused_lane : expd 0x0CC50708 = some (.expanded 2 0xC5 0x07 0) := by decide
theorem test_expand_channel_pressure : expd 0x0DD05500 = some (.expanded 2 0xD0 0x55 0) := by decide
theorem test_expand_pitch_bend : expd 0x0EE00040 = some (.expanded 3 0xE0 0x00 0x40) := by decide
theorem test_expand_single_byte_unused_lanes : expd 0x0FF8AABB = some (.expanded 1 0xF8 0 0) := by decide

-- HexCodec (L2.4)
theorem test_hex_encode :
    hexEncode 0xABCDEF01 = [0x61, 0x62, 0x63, 0x64, 0x65, 0x66, 0x30, 0x31] := by decide
theorem test_hex_decode_upper :
    (view State.reset (.hexDecode [0x30, 0x39, 0x39, 0x30, 0x33, 0x43, 0x36, 0x34, 0x7A])).bind Prod.fst
      = some (.hexValue true 0x09903C64) := by decide
theorem test_hex_decode_bad_last :
    (view State.reset (.hexDecode [0x30, 0x39, 0x39, 0x30, 0x33, 0x63, 0x36, 0x67])).bind Prod.fst
      = some (.hexValue false 0) := by decide

-- WireProtocol (L2.5, L2.6)
theorem test_build_hello :
    (view State.reset (.buildHello 50000 [0x42, 0x72, 0x69, 0x64, 0x67, 0x65])).bind Prod.fst
      = some (.hello (some helloBridge)) := by decide
theorem test_build_hello_full_word :
    nameField [0x61, 0x62, 0x63, 0x64] = [0x61, 0x62, 0x63, 0x64, 0, 0, 0, 0] := by decide
theorem test_build_event :
    (view State.reset (.buildEvent 0x09903C64)).bind Prod.fst
      = some (.datagram (evp ++ hex1 ++ [0, 0, 0])) := by decide
theorem test_build_goodbye : (view State.reset .buildGoodbye).bind Prod.fst = some (.datagram bye) := by decide
theorem test_parse_event_without_trailer :
    (view State.reset (.parse (evp ++ hex1))).bind Prod.fst
      = some (.parsed (.event 0x09903C64)) := by decide
theorem test_parse_event_short :
    (view State.reset (.parse (evp ++ [0x30, 0x39, 0x39, 0x30, 0x33, 0x63, 0x36]))).bind Prod.fst
      = some (.parsed .ignore) := by decide
theorem test_parse_goodbye_longer :
    (view State.reset (.parse (bye ++ [0x00, 0x65]))).bind Prod.fst = some (.parsed .goodbye) := by decide
theorem test_parse_hello_ignored :
    (view State.reset (.parse helloBridge)).bind Prod.fst = some (.parsed .ignore) := by decide

-- RESET (L2.2, last row)
theorem test_reset_in_sysex :
    view (at_ 0xF0 0 2 0xF0 0x01 true) (.reset (.one 0)) = some (some .resetDone, r0.decoders) := by decide


/-! ## Witnesses: concrete states and operands that meet the hypotheses of each statement -/

/-- Inside a sysex, with `n` bytes buffered. -/
def sx (n : BitVec 2) : State :=
  at_ 0xF0 0 n (if n = 0 then 0 else 0xF0) (if n = 2 then 0x01 else 0) true

/-- Two instances: one in a message, one in a sysex. -/
def two : State :=
  { State.reset with decoders := [⟨0x90, 0x3C, 0, 1, 2, false⟩, ⟨0xF0, 0xF0, 0, 1, 0, true⟩] }

/-- The transaction is presented next. -/
def presenting (s : State) (r : Request) : State := { s with requests := [r] }

theorem witness_StepRunsTheDecodedTransaction_presented :
    (presenting State.reset .buildGoodbye).requests = .buildGoodbye :: [] := by decide
theorem witness_StepRunsTheDecodedTransaction_idle : State.reset.requests = [] := by decide
theorem witness_ResetRegistersAreTheStatedValues :
    Decoder.reset ∈ State.reset.decoders := by decide
theorem witness_StepKeepsTheInvariant :
    ∃ t, (presenting (sx 2) (.decode 0 0x02)).Inv ∧
      step (presenting (sx 2) (.decode 0 0x02)) = .next t := ⟨_, by decide, rfl⟩
theorem witness_EveryPresentedTransactionCompletes :
    two.Inv ∧ ∀ r ∈ [Request.decode 1 0xF7, .reset (.one 0), .reset .all, .expand 0x19903C64,
      .parse [], .hexDecode []], r.namesInstance two.decoders.length :=
  ⟨by decide, by simp [Request.namesInstance, two]⟩
theorem witness_RefusalsHaveTheirConditions_config :
    ({ State.reset with cfg := { Config.reference with app := [] } } : State).configOk = false := by decide
theorem witness_RefusalsHaveTheirConditions_instance :
    (Instr.noteOn 1 0).decoderIndex = some 1 ∧ State.reset.configOk = true ∧
      State.reset.decoders[1]? = none := by decide
theorem witness_RefusalsHaveTheirConditions_decoder :
    (Instr.noteOn 0 0).decoderIndex = some 0 ∧ (at_ 0xF7 0 0 0 0 false).configOk = true ∧
      (at_ 0xF7 0 0 0 0 false).decoders[0]? = some ⟨0xF7, 0, 0, 0, 0, false⟩ ∧
      Decoder.legal ⟨0xF7, 0, 0, 0, 0, false⟩ = false := by decide
theorem witness_RefusalsHaveTheirConditions_reset :
    Instr.reset (.one 1) = .reset (.one 1) ∧ State.reset.configOk = true ∧
      State.reset.decoders[1]? = none := by decide
theorem witness_RefusalsHaveTheirConditions_refused :
    exec (.reset (.one 1)) State.reset = .refused (.noSuchInstance 1) ∧
      exec (.noteOn 1 0) State.reset = .refused (.noSuchInstance 1) ∧
      exec (.noteOn 0 0) (at_ 0xF7 0 0 0 0 false) = .refused .decoderStateIllegal ∧
      exec .buildGoodbye { State.reset with cfg := { Config.reference with app := [] } } =
        .refused .configInvalid := ⟨rfl, rfl, rfl, rfl⟩
theorem witness_StepKeepsConfigurationAndInstances :
    ∃ t, step (presenting two (.reset .all)) = .next t := ⟨_, rfl⟩
theorem witness_InstancesShareNoState_writes :
    ∃ t, (Instr.sysexEnd 1).decoderIndex = some 1 ∧ exec (.sysexEnd 1) two = .next t ∧ 0 ≠ 1 :=
  ⟨_, rfl, rfl, by decide⟩
theorem witness_InstancesShareNoState_reads :
    ∃ t, (Instr.data 0 0x64).decoderIndex = some 0 ∧ two.cfg = (at_ 0x90 2 1 0x3C 0 false).cfg ∧
      two.decoders[0]? = (at_ 0x90 2 1 0x3C 0 false).decoders[0]? ∧
      exec (.data 0 0x64) two = .next t := ⟨_, rfl, rfl, rfl, rfl⟩
theorem witness_OtherOperationsKeepNoState :
    (Request.parse []).usesDecoder = false ∧ State.reset.configOk = true ∧ two.configOk = true ∧
      State.reset.cfg = two.cfg := by decide
theorem witness_InterleavedPathsRunAsApart :
    ∃ t os, present two [.decode 0 0x64, .parse [], .decode 1 0xF7, .buildGoodbye, .reset .all] =
      some (t, os) := ⟨_, _, rfl⟩
theorem witness_DecodeReadsBackEveryInstruction :
    (Instr.data 1 0x7F).wf Config.reference 2 = true ∧
      (Instr.parseOther helloBridge).wf Config.reference 2 = true ∧
      (Instr.reset (.one 1)).wf Config.reference 2 = true := by decide
theorem witness_EncodeRestoresEveryTransaction : (Request.decode 0 0xFF).namesInstance 1 :=
  Nat.zero_lt_one
theorem witness_DecoderAndExpanderTablesAgree :
    (0xF4 : Byte) ≠ 0xF0 ∧ expOf 0xF4 = some 0 ∧ cinOf 0xF4 = some 0x5 := by decide

-- the only hypothesis of the statements about the DECODE rows is Holds; more states follow it
theorem witness_decode_rows_reset : State.reset.Holds 0 Decoder.reset := by decide
theorem witness_StatusArrivalResetsTheCount_bounds :
    ∀ b ∈ [0x80, 0xEF, 0xF1, (0xF6 : Byte)],
      (0x80 ≤ b ∧ b ≤ 0xEF) ∨ (0xF1 ≤ b ∧ b ≤ 0xF6) := by decide
theorem witness_StatusArrivalResetsTheCount_midMessage :
    two.Holds 0 ⟨0x90, 0x3C, 0, 1, 2, false⟩ ∧ two.Holds 1 ⟨0xF0, 0xF0, 0, 1, 0, true⟩ := by decide
theorem witness_SysexStartBuffersTheStartByte :
    (sx 2).Holds 0 ⟨0xF0, 0xF0, 0x01, 2, 0, true⟩ ∧ classOf 0x00 = .data ∧ classOf 0x7F = .data := by
  decide
theorem witness_SysexEndFlushesAndClears :
    (sx 0).Holds 0 ⟨0xF0, 0, 0, 0, 0, true⟩ ∧ (sx 1).Holds 0 ⟨0xF0, 0xF0, 0, 1, 0, true⟩ ∧
      (sx 2).Holds 0 ⟨0xF0, 0xF0, 0x01, 2, 0, true⟩ ∧
      (at_ 0x90 2 1 0x3C 0 false).Holds 0 ⟨0x90, 0x3C, 0, 1, 2, false⟩ := by decide
-- the other branches of the DATA statement: none, after F6, one byte, two bytes (empty and half full)
theorem witness_DataByteBuffersOrCompletes :
    r0.Holds 0 ⟨0, 0, 0, 0, 0, false⟩ ∧ (at_ 0xF6 0 0 0 0 false).Holds 0 ⟨0xF6, 0, 0, 0, 0, false⟩ ∧
      (at_ 0xC5 1 0 0 0 false).Holds 0 ⟨0xC5, 0, 0, 0, 1, false⟩ ∧
      (at_ 0xF2 2 0 0 0 false).Holds 0 ⟨0xF2, 0, 0, 0, 2, false⟩ ∧
      (at_ 0xE0 2 1 0x7F 0 false).Holds 0 ⟨0xE0, 0x7F, 0, 1, 2, false⟩ := by decide
theorem witness_EmittedPacketsAreWellMade :
    ∃ t, (Instr.data 0 0x64).decoderIndex = some 0 ∧ exec (.data 0 0x64) two = .next t ∧
      t.out = some (.packet (some 0x09903C64)) := ⟨_, rfl, rfl, by decide⟩
theorem witness_RealTimeBytesAreTransparent :
    two.Holds 1 ⟨0xF0, 0xF0, 0, 1, 0, true⟩ ∧ (0xF8 : Byte) ≤ 0xF8 ∧ (0xF8 : Byte) ≤ 0xFF := by decide
theorem witness_RunningStatusRepeatsTheStatus_two :
    two.Holds 0 ⟨0x90, 0x3C, 0, 1, 2, false⟩ ∧ classOf 0x90 = .status ∧
      AllData [0x00, 0x7F, 0x3C, 0x00] ∧ expOf 0x90 = some 2 ∧
      [0x00, 0x7F, 0x3C, (0x00 : Byte)].length = 2 * 2 := by decide
theorem witness_RunningStatusRepeatsTheStatus_one :
    classOf 0xF3 = .status ∧ AllData [0x05] ∧ expOf 0xF3 = some 1 ∧ [(0x05 : Byte)].length = 1 := by decide
theorem witness_SysexComesOutInChunks :
    two.Holds 0 ⟨0x90, 0x3C, 0, 1, 2, false⟩ ∧
      (⟨0x90, 0x3C, 0, 1, 2, false⟩ : Decoder).sx = false ∧ AllData [0x00, 0x7F, 0x01] ∧
      [0xF8, 0xF0, 0x00, 0xFF, 0x7F, 0x01, 0xF7, (0xFE : Byte)].filter (fun b => classOf b != .rt) =
        0xF0 :: [0x00, 0x7F, 0x01] ++ [0xF7] := by decide
theorem witness_CompleteMessage_status : CompleteMessage [0x90, 0x3C, 0x64] := Or.inr (by decide)
theorem witness_CompleteMessage_status_alone : CompleteMessage [0xF6] := Or.inr (by decide)
theorem witness_CompleteMessage_realtime : CompleteMessage [0xF8] := Or.inl (by decide)
theorem witness_MessageSurvivesDecodeAndExpand :
    (at_ 0x90 2 0 0 0 false).Holds 0 ⟨0x90, 0, 0, 0, 2, false⟩ ∧
      (⟨0x90, 0, 0, 0, 2, false⟩ : Decoder).n = 0 ∧
      (⟨0x90, 0, 0, 0, 2, false⟩ : Decoder).sx = false := by decide
theorem witness_SysexReassembles :
    two.Holds 1 ⟨0xF0, 0xF0, 0, 1, 0, true⟩ ∧ AllData [0x7E] ∧
      [0xF0, 0xF8, 0x7E, (0xF7 : Byte)].filter (fun b => classOf b != .rt) =
        0xF0 :: [0x7E] ++ [0xF7] := by decide

-- the only hypothesis of the statements about the other operations' rows is a legal configuration
theorem witness_stateless_rows : State.reset.configOk = true := by decide
theorem witness_ExpandIgnoresTheCable :
    (0x09903C64#32).extractLsb' 0 28 = (0xF9903C64#32).extractLsb' 0 28 := by decide
-- seven characters; a bad one at position 0 and at position 7; a bad one at position 8 only
theorem witness_HexDecodeReadsTheFirstEight_short : (hex1.take 7).length < 8 := by decide
theorem witness_HexDecodeReadsTheFirstEight_bad :
    0 ≤ 7 ∧ [0x67, 0x39, 0x39, 0x30, 0x33, 0x63, 0x36, (0x67 : Byte)][0]? = some 0x67 ∧ 7 ≤ 7 ∧
      [0x67, 0x39, 0x39, 0x30, 0x33, 0x63, 0x36, (0x67 : Byte)][7]? = some 0x67 ∧
      nibbleOf true 0x67 = none := by decide
theorem witness_HexDecodeReadsTheFirstEight_good :
    8 ≤ (hex1 ++ [0x67]).length ∧ ∀ (k : Nat) (ch : Byte), k ≤ 7 →
      (hex1 ++ [0x67])[k]? = some ch → nibbleOf true ch ≠ none := by
  have good : ∀ k, k ≤ 7 → ((hex1 ++ [0x67])[k]?).bind (nibbleOf true) ≠ none := by decide
  exact ⟨by decide, fun k ch hk h e => good k hk (by rw [h]; exact e)⟩
theorem witness_HexAlphabetIsTheStatedOne :
    ∀ ch ∈ [0x2F, 0x3A, 0x40, 0x47, 0x60, (0x67 : Byte)], ¬ (0x30 ≤ ch ∧ ch ≤ 0x39) ∧
      ¬ (0x61 ≤ ch ∧ ch ≤ 0x66) ∧ ¬ (0x41 ≤ ch ∧ ch ≤ 0x46) := by decide

/-- The reference configuration with NAME_MAX 2. -/
def max2 : Config := { Config.reference with nameMax := some 2 }

theorem witness_BuildHelloWritesTheDatagram_nul : (0x00 : Byte) ∈ [0x61, (0x00 : Byte)] := by decide
theorem witness_BuildHelloWritesTheDatagram_long :
    ∃ m, max2.nameMax = some m ∧ m < [0x61, 0x62, (0x63 : Byte)].length := ⟨2, by decide⟩
theorem witness_BuildHelloWritesTheDatagram_fits :
    (0x00 : Byte) ∉ [0x61, (0x62 : Byte)] ∧
      ∀ m, max2.nameMax = some m → [0x61, (0x62 : Byte)].length ≤ m :=
  ⟨by decide, fun _ h => Nat.le_of_eq (Option.some.inj h)⟩
theorem witness_DatagramsHaveTheStatedLengths :
    (∃ t, exec (.buildHello 50000 [0x42, 0x72, 0x69, 0x64, 0x67, 0x65]) State.reset = .next t ∧
      t.out = some (.hello (some helloBridge))) ∧
    (∃ t, exec (.buildEvent 0x09903C64) State.reset = .next t ∧
      t.out = some (.datagram (evp ++ hex1 ++ [0, 0, 0]))) ∧
    (∃ t, exec .buildGoodbye State.reset = .next t ∧ t.out = some (.datagram bye)) :=
  ⟨⟨_, rfl, by decide⟩, ⟨_, rfl, by decide⟩, ⟨_, rfl, by decide⟩⟩
theorem witness_PrefixesAreUnambiguous :
    matchPrefix helloBridge (helloHeader Config.reference.app) = true := by decide
theorem witness_ParseRowsAnswer :
    (hex1.take 7).length < 8 ∧
      8 ≤ (hex1.take 7 ++ [0x67]).length ∧ hexDecode true ((hex1.take 7 ++ [0x67]).take 8) = none ∧
      8 ≤ hex1.length ∧ hexDecode true (hex1.take 8) = some 0x09903C64 := by decide
theorem witness_ParseClassifiesEveryDatagram :
    evp ++ hex1.take 7 = eventPrefix Config.reference.app ++ hex1.take 7 ∧
      evp ++ hex1 ++ [] = eventPrefix Config.reference.app ++ hex1 ++ [] ∧ hex1.length = 8 ∧
      bye ++ [0x00] = byePrefix Config.reference.app ++ [0x00] := by decide
theorem witness_ParseClassifiesEveryDatagram_other :
    (∀ rest, ([] : ByteString) ≠ eventPrefix Config.reference.app ++ rest) ∧
      (∀ rest, ([] : ByteString) ≠ byePrefix Config.reference.app ++ rest) :=
  ⟨fun _ h => List.cons_ne_nil _ _ h.symm, fun _ h => List.cons_ne_nil _ _ h.symm⟩
theorem witness_ParseDoesNotReadTheTrailer :
    (evp ++ hex1 ++ [0x61]).take (State.reset.cfg.app.length + 20) =
      (evp ++ hex1 ++ [0, 0, 0]).take (State.reset.cfg.app.length + 20) := by decide
theorem witness_GoodbyeAndHelloDatagramsParse :
    Answers (.buildHello 50000 [0x42, 0x72, 0x69, 0x64, 0x67, 0x65]) State.reset
      (.hello (some helloBridge)) := by rfl
theorem witness_ResetClearsTheNamedInstances :
    two.configOk = true ∧ 0 < two.decoders.length ∧ 1 < two.decoders.length := by decide
theorem witness_ResetClearsTheNamedInstances_systemReset :
    ∃ t, exec (.systemReset 0) two = .next t := ⟨_, rfl⟩
theorem witness_DiscardCausesHaveTheirResults_decode :
    .dc1 ∈ decodeCauses 0x7F Decoder.reset ∧
      .dc2 ∈ decodeCauses 0x00 ⟨0xF6, 0, 0, 0, 0, false⟩ ∧
      .dc3 ∈ decodeCauses 0xF7 Decoder.reset ∧
      .dc4 ∈ decodeCauses 0xF7 ⟨0x90, 0x3C, 0, 1, 2, false⟩ ∧
      .dc5 ∈ decodeCauses 0xF6 ⟨0xF0, 0xF0, 0, 1, 0, true⟩ ∧
      .dc6 ∈ decodeCauses 0xF0 ⟨0xF0, 0xF0, 0, 1, 0, true⟩ := by decide
-- DC4 under each of its kinds of byte, and DC5 under the first and last status
theorem witness_DiscardCausesHaveTheirResults_statuses :
    (∀ b ∈ [0x80, 0xEF, 0xF0, 0xF1, 0xF3, 0xF4, (0xF6 : Byte)],
      .dc4 ∈ decodeCauses b ⟨0x90, 0x3C, 0, 1, 2, false⟩) ∧
      .dc5 ∈ decodeCauses 0x80 ⟨0xF0, 0xF0, 0x01, 2, 0, true⟩ ∧
      .dc5 ∈ decodeCauses 0xF4 ⟨0xF0, 0xF0, 0x01, 2, 0, true⟩ := by decide
theorem witness_DiscardCausesHaveTheirResults_others :
    .xc1 ∈ expandCauses 0x01000000 ∧ .hc1 ∈ hexCauses true (hex1.take 7) ∧
      parseCauses Config.reference evp ≠ [] ∧ .sc1 ∈ helloCauses max2 [0x61, 0x62, 0x63] := by decide
theorem witness_MessageCrossesTheNetworkUnchanged :
    State.reset.Holds 0 Decoder.reset ∧ Decoder.reset.n = 0 ∧ Decoder.reset.sx = false ∧
      two.configOk = true ∧ two.cfg.app = State.reset.cfg.app := by decide

/-- A host with the reset engine. -/
def bridge0 : Bridge :=
  { engine := State.reset, sent := [], bus := [], stopped := false, rxMax := none }

theorem witness_OnlyGoodbyeStopsTheHost_stops :
    ∃ k, bridge0.stopped = false ∧
      bridge0.cycle [.datagram bye, .busEvent 0 [0xF8]] = some k ∧ k.stopped = true ∧
      k.sent.length = 1 := ⟨_, rfl, rfl, by decide⟩
theorem witness_OnlyGoodbyeStopsTheHost_goes_on :
    ∃ k, bridge0.cycle [.datagram helloBridge] = some k ∧ k.stopped = false := ⟨_, rfl, by decide⟩
theorem witness_StartupResetsAndSaysHelloOnce :
    buildHello two.cfg 50000 [0x42, 0x72, 0x69, 0x64, 0x67, 0x65] = some helloBridge ∧
      buildHello two.cfg 50000 [0x00] = none := by decide

end Sys2Proof.Tests
end

section
/-!
PROOF. The dispatch, said once: every row is a DECODE of one stream byte on the decoder it names, a
RESET, or an operation whose output is a function of the configuration (00_scope.md R14). From that, all
an instruction can do when it answers and all it can be refused for.
-/

namespace Sys2Proof.Machine

/-! The procedures of R141, class by class -/

theorem decodeByte_of_rt {b : Byte} (h : classOf b = .rt) (cable : Nibble) :
    decodeByte cable b = rtByte cable b := by funext d; simp [decodeByte, h]

theorem decodeByte_of_status {b : Byte} (h : classOf b = .status) (cable : Nibble) :
    decodeByte cable b = statusArrival cable b := by funext d; simp [decodeByte, h]

theorem decodeByte_of_data {b : Byte} (h : classOf b = .data) (cable : Nibble) :
    decodeByte cable b = dataByte cable b := by funext d; simp [decodeByte, h]

theorem decodeByte_sxStart (cable : Nibble) : decodeByte cable 0xF0 = sxStart := rfl

theorem decodeByte_sxEnd (cable : Nibble) : decodeByte cable 0xF7 = sxEnd cable := rfl

/-- A channel voice status byte has class STATUS (R91). -/
theorem classOf_voiceStatus {kind : Nibble} (hlo : 0x8 ≤ kind) (hhi : kind ≠ 0xF) (ch : Nibble) :
    classOf (voiceStatus kind ch) = .status := by
  revert kind ch; decide

/-! The shape of a row -/

/-- The row runs `DECODE(i, b)`: the dispatch pseudocode of R141 on decoder `i`. -/
def DecodesByte (x : Instr) (i : Nat) (b : Byte) : Prop :=
  ∀ s : State, exec x s = decodeOp i (decodeByte s.cfg.cable b) s

theorem DecodesByte.of_rt {x : Instr} {i : Nat} {b : Byte} (hb : classOf b = .rt)
    (hx : ∀ s : State, exec x s = decodeOp i (rtByte s.cfg.cable b) s) : DecodesByte x i b :=
  fun s => by rw [decodeByte_of_rt hb, hx]

theorem DecodesByte.of_status {x : Instr} {i : Nat} {b : Byte} (hb : classOf b = .status)
    (hx : ∀ s : State, exec x s = decodeOp i (statusArrival s.cfg.cable b) s) : DecodesByte x i b :=
  fun s => by rw [decodeByte_of_status hb, hx]

theorem DecodesByte.of_data {x : Instr} {i : Nat} {b : Byte} (hb : classOf b = .data)
    (hx : ∀ s : State, exec x s = decodeOp i (dataByte s.cfg.cable b) s) : DecodesByte x i b :=
  fun s => by rw [decodeByte_of_data hb, hx]

/-- What a row is: a DECODE of a byte, a RESET, or an operation without state. -/
inductive RowShape (x : Instr) : Prop where
  | decode (i : Nat) (b : Byte) (hi : x.decoderIndex = some i) (hx : DecodesByte x i b)
  | reset (r : ResetTarget) (hx : x = .reset r)
  | pure (o : Config → Output) (hi : x.decoderIndex = none) (hx : ∀ s, exec x s = pureOp s (o s.cfg))

/-- Every row has one of the three shapes. -/
theorem rowShape (x : Instr) : RowShape x := by
  cases x with
  | data i v => exact .decode i _ rfl (.of_data (classOf_dataByteOf v) fun _ => rfl)
  | noteOff i ch | noteOn i ch | polyPressure i ch | controlChange i ch | programChange i ch
  | channelPressure i ch | pitchBend i ch =>
    exact .decode i _ rfl (.of_status (classOf_voiceStatus (by decide) (by decide) ch) fun _ => rfl)
  | sysexStart i => exact .decode i 0xF0 rfl fun _ => rfl
  | sysexEnd i => exact .decode i 0xF7 rfl fun _ => rfl
  | mtcQuarterFrame i | songPosition i | songSelect i | undefF4 i | undefF5 i | tuneRequest i =>
    exact .decode i _ rfl (.of_status (by decide) fun _ => rfl)
  | timingClock i | undefF9 i | start i | continue_ i | stop i | undefFD i | activeSensing i
  | systemReset i =>
    exact .decode i _ rfl (.of_rt (by decide) fun _ => rfl)
  | expMisc _ p0 p1 p2 | expCableEvent _ p0 p1 p2 | expSyscom2 _ p0 p1 p2 | expSyscom3 _ p0 p1 p2
  | expSysex _ p0 p1 p2 | expSingleOrSxend1 _ p0 p1 p2 | expSxend2 _ p0 p1 p2
  | expSxend3 _ p0 p1 p2 | expNoteOff _ p0 p1 p2 | expNoteOn _ p0 p1 p2 | expPolyPressure _ p0 p1 p2
  | expControlChange _ p0 p1 p2 | expProgramChange _ p0 p1 p2 | expChannelPressure _ p0 p1 p2
  | expPitchBend _ p0 p1 p2 | expSingleByte _ p0 p1 p2 =>
    exact .pure (fun _ => expandLanes _ p0 p1 p2) rfl fun _ => rfl
  | parseEvent payload =>
    exact .pure (fun c => .parsed (parseEventPayload c.hexUpper payload)) rfl fun _ => rfl
  | parseGoodbye => exact .pure (fun _ => .parsed .goodbye) rfl fun _ => rfl
  | parseOther => exact .pure (fun _ => .parsed .ignore) rfl fun _ => rfl
  | hexEncode v => exact .pure (fun _ => .hexString (hexEncode v)) rfl fun _ => rfl
  | hexDecode str =>
    exact .pure (fun c => match hexDecode c.hexUpper str with
      | some v => .hexValue true v
      | none => .hexValue false 0) rfl fun _ => rfl
  | buildHello port name => exact .pure (fun c => .hello (buildHello c port name)) rfl fun _ => rfl
  | buildEvent p => exact .pure (fun c => .datagram (buildEvent c p)) rfl fun _ => rfl
  | buildGoodbye => exact .pure (fun c => .datagram (buildGoodbye c)) rfl fun _ => rfl
  | reset r => exact .reset r rfl

/-- A row that names a decoder decodes a byte on it. -/
theorem decodesByte_of_decoderIndex {x : Instr} {i : Nat} (hi : x.decoderIndex = some i) :
    ∃ b, DecodesByte x i b := by
  cases rowShape x with
  | decode j b hj hx =>
    obtain rfl : j = i := Option.some.inj (hj.symm.trans hi)
    exact ⟨b, hx⟩
  | reset r hx => subst hx; cases hi
  | pure o hn hx => cases hn.symm.trans hi

/-! All an instruction can do -/

/-- How the state changes when an instruction answers. -/
inductive Effect (x : Instr) (s : State) : State → Prop where
  | decode (i : Nat) (b : Byte) (d : Decoder) (hi : x.decoderIndex = some i) (hd : s.Holds i d) :
      Effect x s ((s.setDecoder i (decodeByte s.cfg.cable b d).1).finish
        (.packet (decodeByte s.cfg.cable b d).2))
  | resetOne (i : Nat) (hx : x = .reset (.one i)) :
      Effect x s ((s.setDecoder i Decoder.reset).finish .resetDone)
  | resetAll (hx : x = .reset .all) :
      Effect x s ((s.setAllDecoders Decoder.reset).finish .resetDone)
  | pure (o : Output) (hi : x.decoderIndex = none) : Effect x s (s.finish o)

/-- An instruction that answers has one of the four effects. -/
theorem exec_next {x : Instr} {s t : State} (h : exec x s = .next t) : Effect x s t := by
  cases rowShape x with
  | decode i b hi hx =>
    obtain ⟨d, hd, rfl⟩ := decodeOp_next ((hx s).symm.trans h)
    exact .decode i b d hi hd
  | reset r hx =>
    subst hx
    obtain ⟨-, ⟨rfl, rfl⟩ | ⟨i, -, rfl, -, rfl⟩⟩ := execReset_next h
    · exact .resetAll rfl
    · exact .resetOne i rfl
  | pure o hi hx =>
    obtain ⟨-, rfl⟩ := pureOp_next ((hx s).symm.trans h)
    exact .pure _ hi

/-- A step either idles or runs an instruction. -/
theorem step_next {s t : State} (h : step s = .next t) : t = s ∨ ∃ x, exec x s = .next t := by
  unfold step at h
  split at h
  · exact .inl (Host.Outcome.next.inj h).symm
  · exact .inr ⟨_, h⟩

/-! All an instruction can be refused for -/

/-- The reason of a refusal, with its condition. -/
inductive RefusedFor (x : Instr) (s : State) : Refusal → Prop where
  | config (hc : s.configOk = false) : RefusedFor x s .configInvalid
  | notHeld (i : Nat) (hc : s.configOk = true)
      (hi : x.decoderIndex = some i ∨ x = .reset (.one i)) (hd : s.decoders[i]? = none) :
      RefusedFor x s (.noSuchInstance i)
  | decoder (i : Nat) (d : Decoder) (hc : s.configOk = true) (hi : x.decoderIndex = some i)
      (hd : s.decoders[i]? = some d) (hl : d.legal = false) : RefusedFor x s .decoderStateIllegal

/-- An instruction that is refused is refused for one of the three reasons. -/
theorem exec_refused {x : Instr} {s : State} {e : Refusal} (h : exec x s = .refused e) :
    RefusedFor x s e := by
  cases rowShape x with
  | decode i b hi hx =>
    obtain ⟨hc, rfl⟩ | ⟨hc, hd, rfl⟩ | ⟨d, hc, hd, hl, rfl⟩ := decodeOp_refused ((hx s).symm.trans h)
    · exact .config hc
    · exact .notHeld i hc (.inl hi) hd
    · exact .decoder i d hc hi hd hl
  | reset r hx =>
    subst hx
    obtain ⟨hc, rfl⟩ | ⟨i, rfl, hc, hd, rfl⟩ := execReset_refused h
    · exact .config hc
    · exact .notHeld i hc (.inr rfl) hd
  | pure o hi hx =>
    obtain ⟨hc, rfl⟩ := pureOp_refused ((hx s).symm.trans h)
    exact .config hc

/-- The guard refuses an invalid configuration, whatever it guards. -/
theorem configured_of_not_configOk {s : State} (h : s.configOk = false) (r : Result) :
    configured s r = .refused .configInvalid := by simp [configured, h]

/-- Every instruction is refused under an invalid configuration (R40, R342). -/
theorem exec_of_not_configOk (x : Instr) {s : State} (h : s.configOk = false) :
    exec x s = .refused .configInvalid := by
  cases rowShape x with
  | decode i b hi hx => exact (hx s).trans (configured_of_not_configOk h _)
  | reset r hx => subst hx; exact configured_of_not_configOk h _
  | pure o hi hx => exact (hx s).trans (configured_of_not_configOk h _)

/-- A DECODE of a decoder that is not held is refused (log 7). -/
theorem decodeOp_of_not_held {s : State} {i : Nat} (hc : s.configOk = true)
    (hd : s.decoders[i]? = none) (f : Decoder → Decoder × Option Packet) :
    decodeOp i f s = .refused (.noSuchInstance i) := by simp [decodeOp, hc, hd]

/-- A DECODE of a decoder that breaks R37 is refused (log 6). -/
theorem decodeOp_of_not_legal {s : State} {i : Nat} {d : Decoder} (hc : s.configOk = true)
    (hd : s.decoders[i]? = some d) (hl : d.legal = false) (f : Decoder → Decoder × Option Packet) :
    decodeOp i f s = .refused .decoderStateIllegal := by simp [decodeOp, hc, hd, hl]

/-- A RESET of a decoder that is not held is refused (log 7). -/
theorem execReset_one_of_not_held {s : State} {i : Nat} (hc : s.configOk = true)
    (hd : s.decoders[i]? = none) : execReset (.one i) s = .refused (.noSuchInstance i) := by
  simp [execReset, hc, hd]

end Sys2Proof.Machine
end

section
/-!
PROOF. What DECODE keeps of the registers it steps: R37 (`Decoder.legal`) and R33
(`Decoder.bufHoldsData`), procedure by procedure, for every stream byte.
-/

namespace Sys2Proof.Machine

/-! The clauses of R37 and R33 as propositions -/

theorem Decoder.countsOk_iff (d : Decoder) : d.countsOk = true ↔ d.n ≠ 3 ∧ d.exp ≠ 3 := by
  simp [Decoder.countsOk]

theorem Decoder.tailZero_iff (d : Decoder) :
    d.tailZero = true ↔ (d.n = 0 → d.buf0 = 0x00) ∧ (d.n = 0 ∨ d.n = 1 → d.buf1 = 0x00) := by
  grind [Decoder.tailZero]

theorem Decoder.expMatches_iff (d : Decoder) : d.expMatches = true ↔ expOf d.rs = some d.exp := by
  simp [Decoder.expMatches]

theorem Decoder.sxMatches_iff (d : Decoder) :
    d.sxMatches = true ↔ (d.sx = true ↔ d.rs = 0xF0) := by
  unfold Decoder.sxMatches
  cases d.sx <;> simp

theorem Decoder.sysexBytes_iff (d : Decoder) :
    d.sysexBytes = true ↔ (d.sx = true →
      (d.n = 0 ∨ d.buf0 = 0xF0 ∨ classOf d.buf0 = .data) ∧ (d.n = 2 → classOf d.buf1 = .data)) := by
  grind [Decoder.sysexBytes]

theorem Decoder.partialFits_iff (d : Decoder) :
    d.partialFits = true ↔ (d.sx = false → d.n = 0 ∨ d.n < d.exp) := by
  grind [Decoder.partialFits]

theorem Decoder.idleClear_iff (d : Decoder) :
    d.idleClear = true ↔ (d.rs = 0x00 → d.n = 0 ∧ d.exp = 0 ∧ d.sx = false) := by
  grind [Decoder.idleClear]

theorem Decoder.bufHoldsData_iff (d : Decoder) :
    d.bufHoldsData = true ↔ (d.sx = false → d.n = 0 ∨ classOf d.buf0 = .data) := by
  grind [Decoder.bufHoldsData]

/-- R37, clause by clause in the order of `Decoder.legal`. -/
theorem Decoder.legal_iff (d : Decoder) : d.legal = true ↔
    (d.n ≠ 3 ∧ d.exp ≠ 3) ∧
    ((d.n = 0 → d.buf0 = 0x00) ∧ (d.n = 0 ∨ d.n = 1 → d.buf1 = 0x00)) ∧
    expOf d.rs = some d.exp ∧
    (d.sx = true ↔ d.rs = 0xF0) ∧
    (d.sx = true →
      (d.n = 0 ∨ d.buf0 = 0xF0 ∨ classOf d.buf0 = .data) ∧ (d.n = 2 → classOf d.buf1 = .data)) ∧
    (d.sx = false → d.n = 0 ∨ d.n < d.exp) ∧
    (d.rs = 0x00 → d.n = 0 ∧ d.exp = 0 ∧ d.sx = false) := by
  simp only [Decoder.legal, Bool.and_eq_true, Decoder.countsOk_iff, Decoder.tailZero_iff,
    Decoder.expMatches_iff, Decoder.sxMatches_iff, Decoder.sysexBytes_iff, Decoder.partialFits_iff,
    Decoder.idleClear_iff, and_assoc]

/-- The registers meet R37 and R33: what `State.Inv` asks of each decoder. -/
def Decoder.Sound (d : Decoder) : Prop := d.legal = true ∧ d.bufHoldsData = true

/-! The registers each procedure leaves -/

theorem Decoder.reset_sound : Decoder.reset.Sound := by unfold Decoder.Sound; decide

/-- What SX_START (R153) leaves, from any registers. -/
theorem Decoder.sysexStarted_sound : (⟨0xF0, 0xF0, 0x00, 1, 0, true⟩ : Decoder).Sound := by
  unfold Decoder.Sound; decide

/-- An empty buffer keeps the invariants, whatever it held. -/
theorem Decoder.Sound.clearBuf {d : Decoder} (h : d.Sound) : d.clearBuf.Sound := by
  rw [Decoder.Sound, Decoder.legal_iff, Decoder.bufHoldsData_iff] at h ⊢
  obtain ⟨⟨⟨-, hexp⟩, -, hmatch, hsx, -, -, hidle⟩, -⟩ := h
  have hidle' (hrs : d.rs = 0x00) : d.exp = 0 ∧ d.sx = false := (hidle hrs).2
  simpa [hmatch, hsx] using And.intro hexp hidle'

/-- In sysex a data byte may be buffered where there is room for it. -/
theorem Decoder.Sound.push_of_sx {d : Decoder} {b : Byte} (h : d.Sound) (hb : classOf b = .data)
    (hsx : d.sx = true) (hn : d.n < 2) : (d.push b).Sound := by
  rw [Decoder.Sound, Decoder.legal_iff, Decoder.bufHoldsData_iff] at h ⊢
  obtain ⟨⟨⟨-, hexp⟩, ⟨hbuf0, hbuf1⟩, hmatch, hrs, hbytes, -, hidle⟩, -⟩ := h
  obtain hn | hn : d.n = 0 ∨ d.n = 1 := by bv_omega
  · simp_all
  · simp_all

/-- Outside sysex a data byte may be buffered as the first of two. -/
theorem Decoder.Sound.push_of_two {d : Decoder} {b : Byte} (h : d.Sound) (hb : classOf b = .data)
    (hsx : d.sx = false) (hn : d.n = 0) (hexp : d.exp = 2) : (d.push b).Sound := by
  rw [Decoder.Sound, Decoder.legal_iff, Decoder.bufHoldsData_iff] at h ⊢
  simp_all

/-- The counts of R93 are 0, 1 and 2. -/
theorem expOf_ne_three (b : Byte) : expOf b ≠ some 3 := by
  revert b; decide

/-- STATUS_ARRIVAL (R143). -/
theorem Decoder.Sound.statusArrival {d : Decoder} {b : Byte} (h : d.Sound)
    (hb : classOf b = .status) (cable : Nibble) : (statusArrival cable b d).1.Sound := by
  have hF0 : b ≠ 0xF0#8 := by rintro rfl; cases hb
  have h00 : b ≠ 0x00#8 := by rintro rfl; cases hb
  unfold Machine.statusArrival
  split
  · exact h
  · next e he =>
    have h3 : e ≠ 3#2 := by rintro rfl; exact expOf_ne_three b he
    rw [Decoder.Sound, Decoder.legal_iff, Decoder.bufHoldsData_iff]
    simp [sxAfter, he, h3, hF0, h00]

/-- DATA_BYTE (R144). -/
theorem Decoder.Sound.dataByte {d : Decoder} {b : Byte} (h : d.Sound) (hb : classOf b = .data)
    (cable : Nibble) : (dataByte cable b d).1.Sound := by
  unfold Machine.dataByte
  split_ifs with hsx hn hrs hexp0 hlast hexp1
  · exact h.push_of_sx hb hsx hn
  · exact h.clearBuf
  · exact h
  · exact h
  · exact h.clearBuf
  · exact h.clearBuf
  · obtain ⟨⟨-, hexp3⟩, -, -, -, -, hfits, -⟩ := d.legal_iff.mp h.1
    simp only [Bool.not_eq_true] at hsx
    obtain ⟨hn, hexp⟩ : d.n = 0 ∧ d.exp = 2 := by
      have := hfits hsx
      bv_omega
    exact h.push_of_two hb hsx hn hexp

/-- Every stream byte keeps R37 and R33. -/
theorem Decoder.Sound.decodeByte {d : Decoder} (h : d.Sound) (cable : Nibble) (b : Byte) :
    (decodeByte cable b d).1.Sound := by
  unfold Machine.decodeByte
  split
  next => exact h
  next => exact Decoder.reset_sound
  next => exact Decoder.sysexStarted_sound
  next hb => exact h.statusArrival hb cable
  next hb => exact h.dataByte hb cable

end Sys2Proof.Machine
end

section
/-!
PROOF. The state: its reset value (R38), the invariant every step keeps (R37, R33), the registers no
step writes (R39, R40), and which state an operation reads (R39, R44).
-/

namespace Sys2Proof.Machine

/-- Settles O3: the one decoder at reset is `Decoder.reset`, the values of R38. -/
theorem resetRegistersAreTheStatedValues : Obligations.ResetRegistersAreTheStatedValues := by
  intro d hd
  obtain rfl : d = Decoder.reset := List.mem_singleton.mp hd
  exact ⟨rfl, rfl, rfl, rfl, rfl, rfl⟩

/-- Settles O4: the reference configuration is legal, and the one decoder at reset is sound. -/
theorem resetStateMeetsTheInvariant : Obligations.ResetStateMeetsTheInvariant := by
  refine ⟨⟨by decide, fun d hd => ?_⟩, List.cons_ne_nil _ _⟩
  obtain rfl : d = Decoder.reset := List.mem_singleton.mp hd
  exact Decoder.reset_sound

/-! Effects on the configuration and the list of decoders -/

theorem Effect.cfg_eq {x : Instr} {s t : State} (h : Effect x s t) : t.cfg = s.cfg := by
  cases h <;> rfl

theorem Effect.decoders_length {x : Instr} {s t : State} (h : Effect x s t) :
    t.decoders.length = s.decoders.length := by
  cases h <;> simp

/-- Every effect leaves each decoder at its old registers, at those a byte gives a sound one, or reset. -/
theorem Effect.decoders_sound {x : Instr} {s t : State} (h : Effect x s t)
    (hs : ∀ d ∈ s.decoders, d.Sound) : ∀ d ∈ t.decoders, d.Sound := by
  intro d' hd'
  cases h with
  | decode i b d hi hd =>
    obtain ⟨-, hget, -⟩ := hd
    obtain hold | rfl := List.mem_or_eq_of_mem_set hd'
    · exact hs d' hold
    · exact (hs d (List.mem_of_getElem? hget)).decodeByte s.cfg.cable b
  | resetOne i hx =>
    obtain hold | rfl := List.mem_or_eq_of_mem_set hd'
    · exact hs d' hold
    · exact Decoder.reset_sound
  | resetAll hx =>
    obtain ⟨d, -, rfl⟩ := List.mem_map.mp hd'
    exact Decoder.reset_sound
  | pure o hi => exact hs d' hd'

/-- A decoder the instruction does not name keeps its registers. -/
theorem Effect.getElem?_of_ne {x : Instr} {s t : State} {i j : Nat} (h : Effect x s t)
    (hx : x.decoderIndex = some i ∨ x = .reset (.one i)) (hj : j ≠ i) :
    t.decoders[j]? = s.decoders[j]? := by
  cases h with
  | decode k b d hk hd =>
    obtain rfl : k = i := by
      obtain hi | rfl := hx
      · exact Option.some.inj (hk.symm.trans hi)
      · cases hk
    exact List.getElem?_set_ne hj.symm
  | resetOne k hk =>
    subst hk
    obtain rfl : k = i := by
      obtain hi | he := hx
      · cases hi
      · cases he; rfl
    exact List.getElem?_set_ne hj.symm
  | resetAll hk =>
    subst hk
    obtain hi | he := hx
    · cases hi
    · cases he
  | pure o hi => rfl

/-! The obligations over one step -/

/-- Settles O5: an idle step keeps the state, and every effect of an instruction keeps each decoder
sound and all that `configOk` reads. -/
theorem stepKeepsTheInvariant : Obligations.StepKeepsTheInvariant := by
  intro s t ⟨hc, hs⟩ ht
  obtain rfl | ⟨x, hx⟩ := step_next ht
  · exact ⟨hc, hs⟩
  · have he := exec_next hx
    exact ⟨(configOk_congr he.cfg_eq he.decoders_length).trans hc, he.decoders_sound hs⟩

/-- Settles O8, from what an effect does to the configuration and the list of decoders. -/
theorem stepKeepsConfigurationAndInstances : Obligations.StepKeepsConfigurationAndInstances := by
  intro s t ht
  obtain rfl | ⟨x, hx⟩ := step_next ht
  · exact ⟨rfl, rfl⟩
  · exact ⟨(exec_next hx).cfg_eq, (exec_next hx).decoders_length⟩

/-- Settles O7: the refusals given one by one, and their converses from `exec_refused`. -/
theorem refusalsHaveTheirConditions : Obligations.RefusalsHaveTheirConditions := by
  intro x s
  refine ⟨exec_of_not_configOk x, fun i hi hc hd => ?_, fun i d hi hc hd hl => ?_, ?_, fun r hr => ?_,
    fun hr => ?_, fun hr => ?_, fun i hr => ?_, nofun⟩
  · obtain ⟨b, hx⟩ := decodesByte_of_decoderIndex hi
    exact (hx s).trans (decodeOp_of_not_held hc hd _)
  · obtain ⟨b, hx⟩ := decodesByte_of_decoderIndex hi
    exact (hx s).trans (decodeOp_of_not_legal hc hd hl _)
  · rintro i rfl hc hd
    exact execReset_one_of_not_held hc hd
  · cases exec_refused hr with
    | config hc => exact .inl rfl
    | notHeld i hc hi hd => exact .inr (.inr ⟨i, rfl⟩)
    | decoder i d hc hi hd hl => exact .inr (.inl rfl)
  · cases exec_refused hr with
    | config hc => exact hc
  · cases exec_refused hr with
    | decoder i d hc hi hd hl => exact ⟨hc, i, d, hi, hd, hl⟩
  · cases exec_refused hr with
    | notHeld i hc hi hd => exact ⟨hc, hi, hd⟩

/-- An engine that holds a decoder is configured exactly when its registers are legal. -/
theorem configOk_of_getElem? {s : State} {i : Nat} {d : Decoder} (hv : configValid s.cfg = true)
    (hd : s.decoders[i]? = some d) : s.configOk = true := by
  have hne : s.decoders ≠ [] := List.ne_nil_of_mem (List.mem_of_getElem? hd)
  simp [State.configOk, hv, hne]

/-- Whether a decoder may be stepped depends on the configuration and its own registers alone. -/
theorem State.Holds.congr {s₁ s₂ : State} {i : Nat} {d : Decoder} (h : s₁.Holds i d)
    (hcfg : s₁.cfg = s₂.cfg) (hdec : s₁.decoders[i]? = s₂.decoders[i]?) : s₂.Holds i d := by
  obtain ⟨hc, hd, hl⟩ := h
  have hv : configValid s₂.cfg = true := hcfg ▸ (Bool.and_eq_true_iff.mp hc).1
  have hd₂ : s₂.decoders[i]? = some d := hdec ▸ hd
  exact ⟨configOk_of_getElem? hv hd₂, hd₂, hl⟩

/-- The registers a DECODE writes are those of the decoder it names. -/
theorem State.Holds.getElem?_setDecoder {s : State} {i : Nat} {d : Decoder} (h : s.Holds i d)
    (d' : Decoder) : (s.setDecoder i d').decoders[i]? = some d' := by
  obtain ⟨-, hd, -⟩ := h
  obtain ⟨hlt, -⟩ := List.getElem?_eq_some_iff.mp hd
  simp [hlt]

/-- Settles O9: the frame of an effect, and `decodeOp` on the registers both states hold. -/
theorem instancesShareNoState : Obligations.InstancesShareNoState := by
  refine ⟨fun x i s t hx ht j hj => (exec_next ht).getElem?_of_ne hx hj, ?_⟩
  intro x i s₁ s₂ t₁ hi hcfg hdec ht₁
  obtain ⟨b, hx⟩ := decodesByte_of_decoderIndex hi
  obtain ⟨d, hd₁, rfl⟩ := decodeOp_next ((hx s₁).symm.trans ht₁)
  have hd₂ : s₂.Holds i d := hd₁.congr hcfg hdec
  refine ⟨_, (hx s₂).trans (decodeOp_of_holds hd₂ _), ?_, ?_⟩
  · simp only [State.finish_out, hcfg]
  · simp only [State.finish_decoders, hd₁.getElem?_setDecoder, hd₂.getElem?_setDecoder, hcfg]

/-! Operations without state -/

/-- The row of a transaction that is no DECODE names no decoder. -/
theorem decoderIndex_decode_of_not_usesDecoder {r : Request} (hr : r.usesDecoder = false)
    (c : Config) : (decode c r).decoderIndex = none := by
  cases r with
  | decode | reset => cases hr
  | expand p => simp only [decode, decodePacket]; split <;> rfl
  | parse d => simp only [decode, decodeDatagram]; split_ifs <;> rfl
  | hexEncode | hexDecode | buildHello | buildEvent | buildGoodbye => rfl

/-- The row of a transaction that is no RESET is no RESET. -/
theorem decode_ne_reset_of_not_usesDecoder {r : Request} (hr : r.usesDecoder = false)
    (c : Config) (t : ResetTarget) : decode c r ≠ .reset t := by
  cases r with
  | decode | reset => cases hr
  | expand p => simp only [decode, decodePacket]; split <;> nofun
  | parse d => simp only [decode, decodeDatagram]; split_ifs <;> nofun
  | hexEncode | hexDecode | buildHello | buildEvent | buildGoodbye => nofun

/-- A transaction that is no DECODE and no RESET returns a function of the configuration. -/
theorem exec_decode_of_not_usesDecoder {r : Request} (hr : r.usesDecoder = false) (c : Config) :
    ∃ o : Config → Output, ∀ s, exec (decode c r) s = pureOp s (o s.cfg) := by
  cases rowShape (decode c r) with
  | decode i b hi hx => cases hi.symm.trans (decoderIndex_decode_of_not_usesDecoder hr c)
  | reset t hx => exact absurd hx (decode_ne_reset_of_not_usesDecoder hr c t)
  | pure o hi hx => exact ⟨o, hx⟩

/-- A row without state answers under a valid configuration and leaves the rest as it is. -/
theorem answers_of_pureOp {x : Instr} {s : State} {o : Config → Output}
    (hx : ∀ s, exec x s = pureOp s (o s.cfg)) (hc : s.configOk = true) : Answers x s (o s.cfg) :=
  (hx s).trans (pureOp_of_configOk hc _)

/-- Settles O10: both states run one row, whose result is a function of their one configuration. -/
theorem otherOperationsKeepNoState : Obligations.OtherOperationsKeepNoState := by
  intro r s₁ s₂ hr hc₁ hc₂ hcfg
  obtain ⟨o, ho⟩ := exec_decode_of_not_usesDecoder hr s₁.cfg
  refine ⟨o s₁.cfg, answers_of_pureOp ho hc₁, ?_⟩
  rw [hcfg] at ho ⊢
  exact answers_of_pureOp ho hc₂

end Sys2Proof.Machine
end

section
/-!
PROOF. The packets of DECODE (R45, R142): the status table's code index numbers, and each procedure's
packet.
-/

namespace Sys2Proof.Machine

/-- A packet in the form of R142 is well made when its code index number is in use and the lanes above
its length are 0x00. -/
theorem wellMade_mkPacket (c : Config) {cin : Nibble} {p1 p2 : Byte} (p0 : Byte) (h0 : cin ≠ 0x0)
    (h1 : cin ≠ 0x1) (hp1 : (cinLen cin).toNat ≤ 1 → p1 = 0x00)
    (hp2 : (cinLen cin).toNat ≤ 2 → p2 = 0x00) : WellMade c (mkPacket c.cable cin p0 p1 p2) := by
  simp only [WellMade, mkPacket_eq, cableOfPacket_packetOf, cinOfPacket_packetOf, lane1_packetOf,
    lane2_packetOf]
  exact ⟨trivial, h0, h1, hp1, hp2⟩

/-- The status table gives no reserved code index number (R93). -/
theorem cinOf_not_reserved (b : Byte) : cinOf b ≠ some 0x0 ∧ cinOf b ≠ some 0x1 := by
  revert b; decide

/-- Outside sysex the length of a status's code index number is the status and its data bytes
(R93, R95). -/
theorem expOf_eq_map_cinOf {b : Byte} (h00 : b ≠ 0x00) (hF0 : b ≠ 0xF0) :
    expOf b = (cinOf b).map (cinLen · - 1) := by
  revert b; decide

/-- The packet of a status from the table, with the lanes its code index number leaves unused at 0x00. -/
theorem wellMade_of_cinOf (c : Config) {s p1 p2 : Byte} {cin : Nibble} (p0 : Byte)
    (hcin : cinOf s = some cin) (hp1 : (cinLen cin).toNat ≤ 1 → p1 = 0x00)
    (hp2 : (cinLen cin).toNat ≤ 2 → p2 = 0x00) : WellMade c (mkPacket c.cable cin p0 p1 p2) := by
  obtain ⟨h0, h1⟩ := cinOf_not_reserved s
  exact wellMade_mkPacket c p0 (fun h => h0 (h ▸ hcin)) (fun h => h1 (h ▸ hcin)) hp1 hp2

theorem statusArrival_wellMade {c : Config} {b : Byte} {d : Decoder} {p : Packet}
    (h : (statusArrival c.cable b d).2 = some p) : WellMade c p := by
  unfold statusArrival at h
  split at h
  · cases h
  · split at h
    · obtain ⟨cin, hcin, rfl⟩ := Option.map_eq_some_iff.mp h
      exact wellMade_of_cinOf c b hcin (fun _ => rfl) (fun _ => rfl)
    · cases h

/-- The packet that completes a message: its code index number counts the status and its data bytes. -/
theorem dataByte_wellMade {c : Config} {b : Byte} {d : Decoder} {p : Packet} (hd : d.legal = true)
    (h : (dataByte c.cable b d).2 = some p) : WellMade c p := by
  obtain ⟨⟨-, hexp3⟩, -, hmatch, hsxrs, -, -, -⟩ := d.legal_iff.mp hd
  have hlen {cin : Nibble} (hsx : ¬d.sx = true) (hrs : ¬d.rs = 0x00) (hcin : cinOf d.rs = some cin) :
      d.exp = cinLen cin - 1 := by
    have hF0 : d.rs ≠ 0xF0 := fun he => hsx (hsxrs.mpr he)
    simpa [hmatch, hcin] using expOf_eq_map_cinOf hrs hF0
  unfold dataByte at h
  split_ifs at h with hsx hn hrs hexp0 hlast hexp1
  · cases h
    exact wellMade_mkPacket c _ (by decide) (by decide) (by simp [cinLen]) (by simp [cinLen])
  · obtain ⟨cin, hcin, rfl⟩ := Option.map_eq_some_iff.mp h
    have := hlen hsx hrs hcin
    exact wellMade_of_cinOf c _ hcin (fun _ => by bv_omega) (fun _ => rfl)
  · obtain ⟨cin, hcin, rfl⟩ := Option.map_eq_some_iff.mp h
    have := hlen hsx hrs hcin
    exact wellMade_of_cinOf c _ hcin (fun _ => by bv_omega) (fun _ => by bv_omega)

/-- The end packet of a sysex carries what the buffer holds and 0xF7. -/
theorem sxEnd_wellMade {c : Config} {d : Decoder} {p : Packet}
    (h : (sxEnd c.cable d).2 = some p) : WellMade c p := by
  unfold sxEnd at h
  split_ifs at h
  all_goals
    cases h
    exact wellMade_mkPacket c _ (by decide) (by decide) (by simp [cinLen]) (by simp [cinLen])

/-- Every packet a byte emits from legal registers is well made. -/
theorem decodeByte_wellMade {c : Config} {b : Byte} {d : Decoder} {p : Packet}
    (hd : d.legal = true) (h : (decodeByte c.cable b d).2 = some p) : WellMade c p := by
  unfold decodeByte at h
  split at h
  next =>
    cases h
    exact wellMade_mkPacket c b (by decide) (by decide) (fun _ => rfl) (fun _ => rfl)
  next => exact sxEnd_wellMade h
  next => cases h
  next => exact statusArrival_wellMade h
  next => exact dataByte_wellMade hd h

/-- Settles O25: only a DECODE effect shows a packet, and that packet is the byte's. -/
theorem emittedPacketsAreWellMade : Obligations.EmittedPacketsAreWellMade := by
  intro x i s t p hi ht hp
  obtain ⟨b, hx⟩ := decodesByte_of_decoderIndex hi
  obtain ⟨d, ⟨-, -, hl⟩, rfl⟩ := decodeOp_next ((hx s).symm.trans ht)
  exact decodeByte_wellMade hl (Output.packet.inj (Option.some.inj hp))

end Sys2Proof.Machine
end

section
/-!
PROOF. One step, and one transaction the host presents: what of the state it reads (R14, R44), what it
leaves as it is, and on which of the two paths of R69 its result comes out.
-/

namespace Sys2Proof.Machine

/-! One step -/

theorem step_of_requests {s : State} {r : Request} {rest : List Request}
    (h : s.requests = r :: rest) : step s = exec (decode s.cfg r) s := by simp [step, h]

theorem step_of_idle {s : State} (h : s.requests = []) : step s = .next s := by simp [step, h]

/-- A word that is a transaction is the one the next step runs. -/
theorem step_withFetchWord {nbits w : Nat} {r : Request} (h : requestOfWord nbits w = .ok r)
    (s : State) :
    step (s.withFetchWord nbits w) = exec (decode s.cfg r) (s.withFetchWord nbits w) := by
  rw [step_of_requests (State.withFetchWord_requests_of_ok h s), State.withFetchWord_cfg]

/-- Settles O1: the two cases of a step, and the widths of the two ports that take words. -/
theorem stepRunsTheDecodedTransaction : Obligations.StepRunsTheDecodedTransaction :=
  ⟨fun _ _ _ h => step_of_requests h, fun _ h => step_of_idle h,
    fun s _ => ⟨step_withFetchWord (r := .decode _ _) rfl s,
      step_withFetchWord (r := .expand _) rfl s⟩⟩

/-! What one transaction reads and returns -/

/-- No instruction reads the result of the operation before it. -/
theorem exec_with_out (x : Instr) (s : State) (o : Option Output) :
    exec x { s with out := o } = exec x s := by
  cases rowShape x with
  | decode i b hi hx => rw [hx, hx]; rfl
  | reset r hx => subst hx; rfl
  | pure o' hi hx => rw [hx, hx]; rfl

/-- A transaction reads the configuration and the decoders, and nothing else of the state. -/
theorem transact_congr {s u : State} (hcfg : u.cfg = s.cfg) (hdec : u.decoders = s.decoders)
    (r : Request) : transact u r = transact s r := by
  obtain ⟨cfg, decoders, requests, out⟩ := s
  obtain rfl : u.cfg = cfg := hcfg
  obtain rfl : u.decoders = decoders := hdec
  exact exec_with_out (decode u.cfg r) { u with requests := [r], out := out } u.out

/-- No transaction changes the configuration (R40). -/
theorem transact_cfg_eq {s t : State} {r : Request} (h : transact s r = .next t) : t.cfg = s.cfg :=
  (exec_next h).cfg_eq

/-- An engine stays configured: the number of decoders does not change either (R39). -/
theorem transact_configOk_eq {s t : State} {r : Request} (h : transact s r = .next t) :
    t.configOk = s.configOk :=
  configOk_congr (transact_cfg_eq h) (exec_next h).decoders_length

/-- The row of a stream byte names the decoder the byte is presented to. -/
theorem decoderIndex_decodeStreamByte (i : Nat) (b : Byte) :
    (decodeStreamByte i b).decoderIndex = some i := by
  unfold decodeStreamByte
  split
  case h_8 => split <;> rfl
  all_goals rfl

/-- EXPAND of a packet is R201 on its fields, whatever its row. -/
theorem exec_decodePacket (p : Packet) (s : State) :
    exec (decodePacket p) s =
      pureOp s (expandLanes (cinOfPacket p) (lane0 p) (lane1 p) (lane2 p)) := by
  unfold decodePacket
  split
  case h_16 =>
    have hF : cinOfPacket p = 0xF := by
      generalize cinOfPacket p = cin at *
      revert cin; decide
    rw [hF]; rfl
  all_goals
    rename_i hcin
    rw [hcin]; rfl

/-- PARSE of a datagram is R260 on the whole of it, whatever its row. -/
theorem exec_decodeDatagram (d : ByteString) (s : State) :
    exec (decodeDatagram s.cfg d) s = pureOp s (.parsed (parse s.cfg d)) := by
  have hlen : d.length - (s.cfg.app.length + 12) < 8 ↔ d.length < s.cfg.app.length + 12 + 8 := by omega
  unfold decodeDatagram parse
  split_ifs with hevent hshort
  · simp [execParseEvent, parseEventPayload, hlen, hshort]
  · simp [execParseEvent, parseEventPayload, hlen, hshort]
  · rfl
  · rfl

/-- A transaction that is no DECODE and no RESET is an operation without state, and its result is a
result of the other path. -/
theorem transact_of_not_usesDecoder {r : Request} (hr : r.usesDecoder = false) (c : Config) :
    ∃ o : Output, o.ofDecoder = false ∧
      ∀ s : State, s.cfg = c → transact s r = pureOp { s with requests := [r] } o := by
  cases r with
  | decode | reset => cases hr
  | expand p => exact ⟨_, rfl, fun s _ => exec_decodePacket p _⟩
  | parse d =>
    exact ⟨.parsed (parse c d), rfl, fun s hs => by subst hs; exact exec_decodeDatagram d _⟩
  | hexDecode str =>
    cases h : hexDecode c.hexUpper str with
    | some v =>
      exact ⟨.hexValue true v, rfl, fun s hs => by simp [transact_eq, decode, execHexDecode, hs, h]⟩
    | none =>
      exact ⟨.hexValue false 0, rfl, fun s hs => by simp [transact_eq, decode, execHexDecode, hs, h]⟩
  | hexEncode v => exact ⟨.hexString (hexEncode v), rfl, fun s _ => rfl⟩
  | buildHello port name =>
    exact ⟨.hello (buildHello c port name), rfl, fun s hs => by subst hs; rfl⟩
  | buildEvent p => exact ⟨.datagram (buildEvent c p), rfl, fun s hs => by subst hs; rfl⟩
  | buildGoodbye => exact ⟨.datagram (buildGoodbye c), rfl, fun s hs => by subst hs; rfl⟩

/-- A result comes out on the path its transaction was presented on. -/
theorem transact_out {s t : State} {r : Request} (h : transact s r = .next t) :
    ∃ o, t.out = some o ∧ o.ofDecoder = r.usesDecoder := by
  cases hr : r.usesDecoder with
  | false =>
    obtain ⟨o, ho, hx⟩ := transact_of_not_usesDecoder hr s.cfg
    obtain ⟨-, rfl⟩ := pureOp_next ((hx s rfl).symm.trans h)
    exact ⟨o, rfl, ho⟩
  | true =>
    cases r with
    | decode i b =>
      obtain ⟨_, hx⟩ := decodesByte_of_decoderIndex (decoderIndex_decodeStreamByte i b)
      obtain ⟨d, -, rfl⟩ := decodeOp_next ((hx _).symm.trans h)
      exact ⟨_, rfl, rfl⟩
    | reset target =>
      obtain ⟨-, ⟨-, rfl⟩ | ⟨_, _, -, -, rfl⟩⟩ := execReset_next h
      all_goals exact ⟨.resetDone, rfl, rfl⟩
    | expand | hexEncode | hexDecode | buildHello | buildEvent | buildGoodbye | parse => cases hr

/-- A transaction that is no DECODE and no RESET leaves the decoders as they are. -/
theorem transact_decoders_eq {s t : State} {r : Request} (hr : r.usesDecoder = false)
    (h : transact s r = .next t) : t.decoders = s.decoders := by
  obtain ⟨o, -, hx⟩ := transact_of_not_usesDecoder hr s.cfg
  obtain ⟨-, rfl⟩ := pureOp_next ((hx s rfl).symm.trans h)
  rfl

end Sys2Proof.Machine
end

section
/-!
PROOF. Any interleaving of the two paths (20_memory.md R69): the run of a list and the run of a sublist
of it are followed side by side, one transaction at a time, under a relation on their states.
-/

namespace Sys2Proof.Machine

/-! The run of a sublist -/

/-- `R` relates a run of any transactions to the run of those among them that `p` takes: a transaction
that `p` takes runs in both with one result, one that it does not take runs in the first alone, and `q`
tells the results apart. -/
structure Follows (p : Request → Bool) (q : Output → Bool) (R : State → State → Prop) : Prop where
  out : ∀ {s t : State} {r : Request}, transact s r = .next t → ∃ o, t.out = some o ∧ q o = p r
  take : ∀ {s u t : State} {r : Request}, R s u → p r = true → transact s r = .next t →
    ∃ v, transact u r = .next v ∧ v.out = t.out ∧ R t v
  skip : ∀ {s u t : State} {r : Request}, R s u → p r = false → transact s r = .next t → R t u

/-- The transactions that `p` takes run alone with the same results, and the relation holds at the end. -/
theorem Follows.present_filter {p : Request → Bool} {q : Output → Bool} {R : State → State → Prop}
    (hR : Follows p q R) {s t u : State} {rs : List Request} {os : List Output} (hu : R s u)
    (h : present s rs = some (t, os)) :
    ∃ v, present u (rs.filter p) = some (v, os.filter q) ∧ R t v := by
  induction rs generalizing s u os with
  | nil => cases h; exact ⟨u, rfl, hu⟩
  | cons r rs ih =>
    obtain ⟨s₁, os₁, hr, hrs, rfl⟩ := present_cons_some h
    obtain ⟨o, ho, hq⟩ := hR.out hr
    cases hp : p r with
    | true =>
      obtain ⟨u₁, hur, huo, hu₁⟩ := hR.take hu hp hr
      obtain ⟨v, hv, hRv⟩ := ih hu₁ hrs
      refine ⟨v, ?_, hRv⟩
      simp [hp, hq, ho, huo, present_cons hur, hv]
    | false =>
      obtain ⟨v, hv, hRv⟩ := ih (hR.skip hu hp hr) hrs
      refine ⟨v, ?_, hRv⟩
      simp [hp, hq, ho, hv]

/-! The two paths -/

/-- The second state holds the configuration and the decoder registers of the first. -/
def SameRegisters (s u : State) : Prop := u.cfg = s.cfg ∧ u.decoders = s.decoders

/-- The DECODE and RESET operations run alone on the same registers. -/
theorem follows_usesDecoder : Follows Request.usesDecoder Output.ofDecoder SameRegisters where
  out := transact_out
  take hu _ h := by
    obtain ⟨hcfg, hdec⟩ := hu
    exact ⟨_, (transact_congr hcfg hdec _).trans h, rfl, rfl, rfl⟩
  skip hu hr h := by
    obtain ⟨hcfg, hdec⟩ := hu
    exact ⟨hcfg.trans (transact_cfg_eq h).symm, hdec.trans (transact_decoders_eq hr h).symm⟩

/-- The second state has the first one's configuration, and its decoders are still `ds`. -/
def StandsAt (ds : List Decoder) (s u : State) : Prop :=
  u.cfg = s.cfg ∧ u.configOk = s.configOk ∧ u.decoders = ds

/-- The other operations run alone on decoders that stand still. -/
theorem follows_not_usesDecoder (ds : List Decoder) :
    Follows (fun r => !r.usesDecoder) (fun o => !o.ofDecoder) (StandsAt ds) where
  out h := by
    obtain ⟨o, ho, hq⟩ := transact_out h
    exact ⟨o, ho, by rw [hq]⟩
  take {s u t r} hu hr h := by
    obtain ⟨hcfg, hok, rfl⟩ := hu
    obtain ⟨o, -, hx⟩ := transact_of_not_usesDecoder (by simpa using hr) s.cfg
    obtain ⟨hc, rfl⟩ := pureOp_next ((hx s rfl).symm.trans h)
    have hcu : State.configOk { u with requests := [r] } = true := hok.trans hc
    exact ⟨_, (hx u hcfg).trans (pureOp_of_configOk hcu o), rfl, hcfg, hok, rfl⟩
  skip hu _ h := by
    obtain ⟨hcfg, hok, hds⟩ := hu
    exact ⟨hcfg.trans (transact_cfg_eq h).symm, hok.trans (transact_configOk_eq h).symm, hds⟩

/-- Settles O11: each path follows the whole list. -/
theorem interleavedPathsRunAsApart : Obligations.InterleavedPathsRunAsApart := by
  intro s t rs os h
  obtain ⟨u, hu, -, hdec⟩ := follows_usesDecoder.present_filter ⟨rfl, rfl⟩ h
  obtain ⟨v, hv, -, -, hds⟩ :=
    (follows_not_usesDecoder s.decoders).present_filter ⟨rfl, rfl, rfl⟩ h
  exact ⟨⟨u, hu, hdec⟩, ⟨v, hv, hds⟩⟩

end Sys2Proof.Machine
end

section
/-!
PROOF. The tables of 30_encoding.md: the class of a stream byte (R91), the count and the code index
number of a status (R93), and the widths of the two ports that take words (log 11).
-/

namespace Sys2Proof.Machine

/-! Stream-byte classes -/

/-- The status bytes and real-time bytes are those with bit 7 set (R90, R91). -/
theorem getLsbD_seven_iff (b : Byte) : b.getLsbD 7 = true ↔ 0x80 ≤ b := by
  revert b; decide

/-- Settles O14: the tests of R91 in their order, each branch with the range of bytes that reach it. -/
theorem streamBytesFallInTheirClasses : Obligations.StreamBytesFallInTheirClasses := by
  intro b
  simp only [classOf, getLsbD_seven_iff]
  split_ifs with hrt hend hstart hstatus
  all_goals
    simp only [true_iff, false_iff]
    bv_omega

/-! The status table -/

/-- A channel voice status takes two data bytes, but 0xC0 to 0xDF takes one (R93). -/
theorem expOf_voiceStatus {kind : Nibble} (hlo : 0x8 ≤ kind) (hhi : kind ≠ 0xF) (ch : Nibble) :
    expOf (voiceStatus kind ch) = some (if kind = 0xC ∨ kind = 0xD then 1 else 2) := by
  revert kind ch; decide

/-- The code index number of a channel voice status is its message nibble (R93). -/
theorem cinOf_voiceStatus {kind : Nibble} (hlo : 0x8 ≤ kind) (hhi : kind ≠ 0xF) (ch : Nibble) :
    cinOf (voiceStatus kind ch) = some kind := by
  revert kind ch; decide

/-- Settles O15: the channel voice rows on every channel, then the table's rows of one byte each. -/
theorem statusTableIsTheStatedOne : Obligations.StatusTableIsTheStatedOne := by
  have voiceRow {kind : Nibble} (hlo : 0x8 ≤ kind) (hhi : kind ≠ 0xF) (ch : Nibble) :=
    And.intro (expOf_voiceStatus hlo hhi ch) (cinOf_voiceStatus hlo hhi ch)
  refine ⟨fun ch => ?_, by decide⟩
  obtain ⟨exp8, cin8⟩ := voiceRow (kind := 0x8) (by decide) (by decide) ch
  obtain ⟨exp9, cin9⟩ := voiceRow (kind := 0x9) (by decide) (by decide) ch
  obtain ⟨expA, cinA⟩ := voiceRow (kind := 0xA) (by decide) (by decide) ch
  obtain ⟨expB, cinB⟩ := voiceRow (kind := 0xB) (by decide) (by decide) ch
  obtain ⟨expC, cinC⟩ := voiceRow (kind := 0xC) (by decide) (by decide) ch
  obtain ⟨expD, cinD⟩ := voiceRow (kind := 0xD) (by decide) (by decide) ch
  obtain ⟨expE, cinE⟩ := voiceRow (kind := 0xE) (by decide) (by decide) ch
  exact ⟨exp8, cin8, exp9, cin9, expA, cinA, expB, cinB, expC, cinC, expD, cinD, expE, cinE⟩

/-! Table words -/

theorem decodeTableWord_byte (w : Nat) :
    decodeTableWord 8 w = some (decodeStreamByte 0 (BitVec.ofNat 8 w)) := rfl

theorem decodeTableWord_packet (w : Nat) :
    decodeTableWord 32 w = some (decodePacket (BitVec.ofNat 32 w)) := rfl

/-- No port takes a word of another width. -/
theorem decodeTableWord_of_no_port {nbits : Nat} (h8 : nbits ≠ 8) (h32 : nbits ≠ 32) (w : Nat) :
    decodeTableWord nbits w = none := by
  simp [decodeTableWord, decodeWord, requestOfWord, h8, h32, Except.map, Except.toOption]

/-- Settles O2: the five bytes and the two packets by their rows, and a width no port takes. -/
theorem tableWordsDecodeToTheirRows : Obligations.TableWordsDecodeToTheirRows := by
  unfold Obligations.TableWordsDecodeToTheirRows
  simp only [decodeTableWord_byte, decodeTableWord_packet]
  exact ⟨rfl, rfl, rfl, rfl, rfl, rfl, rfl, decodeTableWord_of_no_port (by decide) (by decide) _⟩

end Sys2Proof.Machine
end

section
/-!
PROOF. The datagram prefixes (30_encoding.md R97 to R100): they differ in one byte, so a datagram matches
at most one of them.
-/

namespace Sys2Proof.Machine

/-- A datagram holds the bytes of a header it matches, at their offsets. -/
theorem getElem?_of_matchPrefix {d x : ByteString} (h : matchPrefix d x = true) {k : Nat} {a : Byte}
    (hx : x[k]? = some a) : d[k]? = some a := by
  obtain ⟨hk, -⟩ := List.getElem?_eq_some_iff.mp hx
  rw [← append_drop_of_matchPrefix h, List.getElem?_append_left hk, hx]

/-- A datagram that matches a header does not match one that differs from it in some byte. -/
theorem matchPrefix_eq_false_of_getElem? {d x y : ByteString} {k : Nat} {a b : Byte}
    (h : matchPrefix d x = true) (hx : x[k]? = some a) (hy : y[k]? = some b) (hab : a ≠ b) :
    matchPrefix d y = false := by
  by_contra hne
  have hdy := getElem?_of_matchPrefix (Bool.eq_true_of_not_eq_false hne) hy
  have hdx := getElem?_of_matchPrefix h hx
  exact hab (Option.some.inj (hdx.symm.trans hdy))

/-! The byte at offset L + 2, where the three differ (R100) -/

theorem eventPrefix_getElem? (app : ByteString) : (eventPrefix app)[app.length + 2]? = some 0x65 := by
  simp [eventPrefix, appPrefix]

theorem byePrefix_getElem? (app : ByteString) : (byePrefix app)[app.length + 2]? = some 0x62 := by
  simp [byePrefix, appPrefix]

theorem helloHeader_getElem? (app : ByteString) : (helloHeader app)[app.length + 2]? = some 0x68 := by
  simp [helloHeader, appPrefix]

/-- A goodbye is no event. -/
theorem matchPrefix_eventPrefix_of_byePrefix {app d : ByteString}
    (h : matchPrefix d (byePrefix app) = true) : matchPrefix d (eventPrefix app) = false :=
  matchPrefix_eq_false_of_getElem? h (byePrefix_getElem? app) (eventPrefix_getElem? app) (by decide)

/-- Settles O45, from the byte at offset L + 2 of each header. -/
theorem prefixesAreUnambiguous : Obligations.PrefixesAreUnambiguous := by
  intro app d
  have event := eventPrefix_getElem? app
  have bye := byePrefix_getElem? app
  have hello := helloHeader_getElem? app
  refine ⟨event, bye, hello, fun ⟨he, hb⟩ => ?_, fun hh => ⟨?_, ?_⟩⟩
  · exact Bool.false_ne_true ((matchPrefix_eventPrefix_of_byePrefix hb).symm.trans he)
  · exact matchPrefix_eq_false_of_getElem? hh hello event (by decide)
  · exact matchPrefix_eq_false_of_getElem? hh hello bye (by decide)

end Sys2Proof.Machine
end

section
/-!
PROOF. Decode and encode are inverse to each other (30_encoding.md R101, R102): port by port, from the
fields of a stream byte, of a packet and of a datagram.
-/

namespace Sys2Proof.Machine

/-! Stream bytes -/

/-- The data bytes are those with a high nibble below 8 (R90, R91). -/
theorem classOf_eq_data_iff (b : Byte) : classOf b = .data ↔ highNibble b < 0x8 := by
  revert b; decide

/-- The row of a data byte is DATA. -/
theorem decodeStreamByte_of_data {b : Byte} (h : classOf b = .data) (i : Nat) :
    decodeStreamByte i b = .data i (b.extractLsb' 0 7) := by
  rw [classOf_eq_data_iff] at h
  unfold decodeStreamByte
  split
  case h_9 => rfl
  all_goals
    next hkind => exact absurd (hkind ▸ h) (by decide)

/-- A stream byte written from its nibbles, one or both of them known. -/
theorem voiceStatus_of_highNibble {b : Byte} {kind : Nibble} (h : highNibble b = kind) :
    voiceStatus kind (lowNibble b) = b := h ▸ voiceStatus_nibbles b

theorem voiceStatus_of_nibbles {b : Byte} {kind sub : Nibble} (hkind : highNibble b = kind)
    (hsub : lowNibble b = sub) : voiceStatus kind sub = b :=
  hsub ▸ voiceStatus_of_highNibble hkind

/-- The transaction of a stream byte's row is that byte. -/
theorem encode_decodeStreamByte (c : Config) (i : Nat) (b : Byte) :
    encode c (decodeStreamByte i b) = .decode i b := by
  unfold decodeStreamByte
  split
  case h_8 hkind =>
    split
    case h_16 =>
      have hsub : lowNibble b = 0xF := by
        generalize lowNibble b = sub at *
        revert sub; decide
      exact congrArg (Request.decode i) (voiceStatus_of_nibbles hkind hsub)
    all_goals
      next hsub => exact congrArg (Request.decode i) (voiceStatus_of_nibbles hkind hsub)
  case h_9 =>
    have hlt : highNibble b < 0x8 := by
      generalize highNibble b = kind at *
      revert kind; decide
    exact congrArg (Request.decode i) (dataByteOf_extract ((classOf_eq_data_iff b).mpr hlt))
  all_goals
    next hkind => exact congrArg (Request.decode i) (voiceStatus_of_highNibble hkind)

/-! Packets -/

/-- A packet written from its fields, its code index number known. -/
theorem packetOf_of_cinOfPacket {p : Packet} {cin : Nibble} (h : cinOfPacket p = cin) :
    packetOf (cableOfPacket p) cin (lane0 p) (lane1 p) (lane2 p) = p := h ▸ packetOf_fields p

/-- The transaction of a packet's row is that packet. -/
theorem encode_decodePacket (c : Config) (p : Packet) : encode c (decodePacket p) = .expand p := by
  unfold decodePacket
  split
  case h_16 =>
    have hcin : cinOfPacket p = 0xF := by
      generalize cinOfPacket p = cin at *
      revert cin; decide
    exact congrArg Request.expand (packetOf_of_cinOfPacket hcin)
  all_goals
    next hcin => exact congrArg Request.expand (packetOf_of_cinOfPacket hcin)

/-! Datagrams -/

theorem decodeDatagram_event (c : Config) (payload : ByteString) :
    decodeDatagram c (eventPrefix c.app ++ payload) = .parseEvent payload := by
  simp only [decodeDatagram, matchPrefix_append, if_true, List.drop_left]

theorem decodeDatagram_goodbye (c : Config) (rest : ByteString) :
    decodeDatagram c (byePrefix c.app ++ rest) = .parseGoodbye rest := by
  have hbye : matchPrefix (byePrefix c.app ++ rest) (byePrefix c.app) = true := matchPrefix_append _ _
  simp [decodeDatagram, matchPrefix_eventPrefix_of_byePrefix hbye]

theorem rowOk_parseOther_iff (c : Config) (d : ByteString) :
    (Instr.parseOther d).rowOk c = true ↔
      matchPrefix d (eventPrefix c.app) = false ∧ matchPrefix d (byePrefix c.app) = false := by
  simp [Instr.rowOk]

theorem decodeDatagram_other {c : Config} {d : ByteString}
    (h : (Instr.parseOther d).rowOk c = true) : decodeDatagram c d = .parseOther d := by
  obtain ⟨hevent, hbye⟩ := (rowOk_parseOther_iff c d).mp h
  simp [decodeDatagram, hevent, hbye]

/-- The transaction of a datagram's row is that datagram. -/
theorem encode_decodeDatagram (c : Config) (d : ByteString) :
    encode c (decodeDatagram c d) = .parse d := by
  unfold decodeDatagram
  split_ifs with hevent hbye
  · exact congrArg Request.parse (append_drop_of_matchPrefix hevent)
  · exact congrArg Request.parse (append_drop_of_matchPrefix hbye)
  · rfl

/-! Every instruction and every transaction -/

/-- An instruction that meets its row's condition is read back from its transaction; which decoders the
engine holds does not matter. -/
theorem decode_encode {c : Config} {x : Instr} (h : x.rowOk c = true) : decode c (encode c x) = x := by
  cases x with
  | data i v =>
    exact (decodeStreamByte_of_data (classOf_dataByteOf v) i).trans (by rw [extract_dataByteOf])
  | noteOff | noteOn | polyPressure | controlChange | programChange | channelPressure | pitchBend =>
    simp [encode, decode, decodeStreamByte]
  | expMisc | expCableEvent | expSyscom2 | expSyscom3 | expSysex | expSingleOrSxend1 | expSxend2
  | expSxend3 | expNoteOff | expNoteOn | expPolyPressure | expControlChange | expProgramChange
  | expChannelPressure | expPitchBend | expSingleByte =>
    simp [encode, decode, decodePacket]
  | parseEvent payload => exact decodeDatagram_event c payload
  | parseGoodbye rest => exact decodeDatagram_goodbye c rest
  | parseOther d => exact decodeDatagram_other h
  | sysexStart | mtcQuarterFrame | songPosition | songSelect | undefF4 | undefF5 | tuneRequest
  | sysexEnd | timingClock | undefF9 | start | continue_ | stop | undefFD | activeSensing
  | systemReset => rfl
  | hexEncode | hexDecode | buildHello | buildEvent | buildGoodbye | reset => rfl

/-- Settles O12: of well-formedness only the row's condition is needed. -/
theorem decodeReadsBackEveryInstruction : Obligations.DecodeReadsBackEveryInstruction := by
  intro c n x hx
  obtain ⟨-, hrow⟩ := Bool.and_eq_true_iff.mp hx
  exact decode_encode hrow

/-- The decoder loses no bit of a transaction. -/
theorem encode_decode (c : Config) (r : Request) : encode c (decode c r) = r := by
  cases r with
  | decode i b => exact encode_decodeStreamByte c i b
  | expand p => exact encode_decodePacket c p
  | parse d => exact encode_decodeDatagram c d
  | hexEncode | hexDecode | buildHello | buildEvent | buildGoodbye | reset => rfl

/-! The decoder's rows are well formed -/

theorem instanceOk_of_decoderIndex {x : Instr} {i : Nat} (h : x.decoderIndex = some i) (n : Nat) :
    x.instanceOk n = decide (i < n) := by
  unfold Instr.instanceOk
  split
  · cases h
  · rw [h]

/-- An instruction that names no decoder needs none. -/
theorem instanceOk_of_names_no_decoder {x : Instr} (h : x.decoderIndex = none)
    (hreset : ∀ t, x ≠ .reset t) (n : Nat) : x.instanceOk n = true := by
  unfold Instr.instanceOk
  split
  · exact absurd rfl (hreset _)
  · rw [h]

theorem rowOk_of_decoderIndex {x : Instr} {i : Nat} (h : x.decoderIndex = some i) (c : Config) :
    x.rowOk c = true := by
  unfold Instr.rowOk
  split
  · cases h
  · rfl

/-- The decoder a transaction names is the one its row names. -/
theorem instanceOk_decode (c : Config) {n : Nat} {r : Request} (h : r.namesInstance n) :
    (decode c r).instanceOk n = true := by
  cases hr : r.usesDecoder with
  | false =>
    exact instanceOk_of_names_no_decoder (decoderIndex_decode_of_not_usesDecoder hr c)
      (decode_ne_reset_of_not_usesDecoder hr c) n
  | true =>
    cases r with
    | decode i b =>
      rw [decode, instanceOk_of_decoderIndex (decoderIndex_decodeStreamByte i b)]
      exact decide_eq_true h
    | reset t =>
      cases t with
      | one i => exact decide_eq_true h
      | all => rfl
    | expand | hexEncode | hexDecode | buildHello | buildEvent | buildGoodbye | parse => cases hr

/-- The decoder answers PARSE_OTHER only for a datagram that matches neither header. -/
theorem rowOk_decode (c : Config) (r : Request) : (decode c r).rowOk c = true := by
  cases r with
  | decode i b => exact rowOk_of_decoderIndex (decoderIndex_decodeStreamByte i b) c
  | expand p => simp only [decode, decodePacket]; split <;> rfl
  | parse d =>
    simp only [decode, decodeDatagram]
    split_ifs with hevent hbye
    · rfl
    · rfl
    · exact (rowOk_parseOther_iff c d).mpr
        ⟨Bool.eq_false_of_not_eq_true hevent, Bool.eq_false_of_not_eq_true hbye⟩
  | hexEncode | hexDecode | buildHello | buildEvent | buildGoodbye | reset => rfl

/-- Settles O13: no bit is lost, and the row meets both conditions of `Instr.wf`. -/
theorem encodeRestoresEveryTransaction : Obligations.EncodeRestoresEveryTransaction := fun c _ r =>
  ⟨encode_decode c r,
    fun hi => Bool.and_eq_true_iff.mpr ⟨instanceOk_decode c hi, rowOk_decode c r⟩⟩

end Sys2Proof.Machine
end

section
/-!
PROOF. One stream byte (40_stream_decoder.md R141): every DECODE row is the dispatch of its byte, and
what each procedure answers in each case its rule names.
-/

namespace Sys2Proof.Machine

/-! A row and its byte -/

/-- The byte a DECODE row decodes is the one its transaction presents. -/
theorem decodesByte_of_encode {c : Config} {x : Instr} {i : Nat} {b : Byte}
    (h : encode c x = .decode i b) : DecodesByte x i b := by
  cases x with
  | data i v => cases h; exact .of_data (classOf_dataByteOf v) fun _ => rfl
  | noteOff i ch | noteOn i ch | polyPressure i ch | controlChange i ch | programChange i ch
  | channelPressure i ch | pitchBend i ch =>
    cases h
    exact .of_status (classOf_voiceStatus (by decide) (by decide) ch) fun _ => rfl
  | sysexStart i | sysexEnd i => cases h; exact fun _ => rfl
  | mtcQuarterFrame i | songPosition i | songSelect i | undefF4 i | undefF5 i | tuneRequest i =>
    cases h
    exact .of_status (by decide) fun _ => rfl
  | timingClock i | undefF9 i | start i | continue_ i | stop i | undefFD i | activeSensing i
  | systemReset i =>
    cases h
    exact .of_rt (by decide) fun _ => rfl
  | expMisc | expCableEvent | expSyscom2 | expSyscom3 | expSysex | expSingleOrSxend1 | expSxend2
  | expSxend3 | expNoteOff | expNoteOn | expPolyPressure | expControlChange | expProgramChange
  | expChannelPressure | expPitchBend | expSingleByte => cases h
  | parseEvent | parseGoodbye | parseOther | hexEncode | hexDecode | buildHello | buildEvent
  | buildGoodbye | reset => cases h

theorem decodesByte_decodeStreamByte (i : Nat) (b : Byte) :
    DecodesByte (decodeStreamByte i b) i b :=
  decodesByte_of_encode (encode_decodeStreamByte Config.reference i b)

/-- A row on legal registers answers what the dispatch of its byte answers. -/
theorem DecodesByte.decodesTo {x : Instr} {s : State} {i : Nat} {b : Byte} {d : Decoder}
    (hx : DecodesByte x i b) (h : s.Holds i d) :
    DecodesTo x s i (decodeByte s.cfg.cable b d).1 (decodeByte s.cfg.cable b d).2 :=
  (hx s).trans (decodeOp_of_holds h _)

theorem DecodesByte.decodesTo_of_eq {x : Instr} {s : State} {i : Nat} {b : Byte} {d d' : Decoder}
    {p : Option Packet} (hx : DecodesByte x i b) (h : s.Holds i d)
    (he : decodeByte s.cfg.cable b d = (d', p)) : DecodesTo x s i d' p := by
  have hd := hx.decodesTo h
  rwa [he] at hd

/-- Settles O24: the row of a byte decodes that byte. -/
theorem rowsAgreeWithDispatchPseudocode : Obligations.RowsAgreeWithDispatchPseudocode :=
  fun _ i _ b h => (decodesByte_decodeStreamByte i b).decodesTo h

/-! Real-time bytes (R145) -/

theorem decodeByte_rt {b : Byte} (hb : classOf b = .rt) (cable : Nibble) (d : Decoder) :
    decodeByte cable b d = (d, some (mkPacket cable 0xF b 0x00 0x00)) := by
  rw [decodeByte_of_rt hb]; rfl

/-- The registers a decoder already holds change nothing. -/
theorem State.Holds.set_decoders {s : State} {i : Nat} {d : Decoder} (h : s.Holds i d) :
    s.decoders.set i d = s.decoders := by
  obtain ⟨-, hd, -⟩ := h
  obtain ⟨hlt, rfl⟩ := List.getElem?_eq_some_iff.mp hd
  exact List.set_getElem_self hlt

/-- A real-time row returns its packet and writes nothing. -/
theorem DecodesByte.answers_of_rt {x : Instr} {s : State} {i : Nat} {b : Byte} {d : Decoder}
    (hx : DecodesByte x i b) (hb : classOf b = .rt) (h : s.Holds i d) :
    Answers x s (.packet (some (mkPacket s.cfg.cable 0xF b 0x00 0x00))) := by
  have hd := hx.decodesTo_of_eq h (decodeByte_rt hb s.cfg.cable d)
  rwa [DecodesTo, h.set_decoders] at hd

/-- Settles O23: each of the eight rows decodes a real-time byte. -/
theorem realTimeRowsEmitTheirByte : Obligations.RealTimeRowsEmitTheirByte := by
  intro s i d h
  have row {x : Instr} {b : Byte} (hx : encode s.cfg x = .decode i b) (hb : classOf b = .rt) :
      Answers x s (.packet (some (mkPacket s.cfg.cable 0xF b 0x00 0x00))) :=
    (decodesByte_of_encode hx).answers_of_rt hb h
  exact ⟨row rfl rfl, row rfl rfl, row rfl rfl, row rfl rfl, row rfl rfl, row rfl rfl, row rfl rfl,
    row rfl rfl⟩

/-! Status bytes (R143) -/

/-- Every status byte has a row in the status table (R93). -/
theorem exists_row_of_status {b : Byte} (hb : classOf b = .status) :
    ∃ e c, expOf b = some e ∧ cinOf b = some c := by
  have hsome : (expOf b).isSome ∧ (cinOf b).isSome := by revert b; decide
  obtain ⟨⟨e, he⟩, ⟨c, hc⟩⟩ := hsome.imp Option.isSome_iff_exists.mp Option.isSome_iff_exists.mp
  exact ⟨e, c, he, hc⟩

/-- What STATUS_ARRIVAL leaves does not depend on the registers it starts from. -/
theorem decodeByte_status {b : Byte} {e : BitVec 2} {c : Nibble} (hb : classOf b = .status)
    (he : expOf b = some e) (hc : cinOf b = some c) (cable : Nibble) (d : Decoder) :
    decodeByte cable b d = (⟨b, 0x00, 0x00, 0, e, false⟩,
      if e = 0 then some (mkPacket cable c b 0x00 0x00) else none) := by
  rw [decodeByte_of_status hb]
  simp [statusArrival, he, hc, sxAfter]

/-- Settles O19: the range is the class STATUS, and each byte of it has a row in the table. -/
theorem statusArrivalResetsTheCount : Obligations.StatusArrivalResetsTheCount := by
  intro s i d b h hrange
  obtain ⟨-, -, -, hstatus, -⟩ := streamBytesFallInTheirClasses b
  have hb := hstatus.mpr hrange
  obtain ⟨e, c, he, hc⟩ := exists_row_of_status hb
  exact ⟨e, c, he, hc,
    (decodesByte_decodeStreamByte i b).decodesTo_of_eq h (decodeByte_status hb he hc _ d)⟩

/-- A channel voice row on legal registers: the status becomes running, and no packet comes. -/
theorem decodesTo_of_voiceStatus {x : Instr} {s : State} {i : Nat} {d : Decoder} {kind ch : Nibble}
    (hx : encode s.cfg x = .decode i (voiceStatus kind ch)) (hlo : 0x8 ≤ kind) (hhi : kind ≠ 0xF)
    (h : s.Holds i d) :
    DecodesTo x s i
      ⟨voiceStatus kind ch, 0x00, 0x00, 0, if kind = 0xC ∨ kind = 0xD then 1 else 2, false⟩
      none := by
  have he := expOf_voiceStatus hlo hhi ch
  have heff := decodeByte_status (classOf_voiceStatus hlo hhi ch) he (cinOf_voiceStatus hlo hhi ch)
    s.cfg.cable d
  have hne : (if kind = 0xC ∨ kind = 0xD then 1 else 2 : BitVec 2) ≠ 0 := by split <;> decide
  rw [if_neg hne] at heff
  exact (decodesByte_of_encode hx).decodesTo_of_eq h heff

/-- Settles O17: seven rows of one form. -/
theorem channelVoiceStatusBecomesRunningStatus :
    Obligations.ChannelVoiceStatusBecomesRunningStatus := by
  intro s i d ch h
  exact ⟨decodesTo_of_voiceStatus rfl (by decide) (by decide) h,
    decodesTo_of_voiceStatus rfl (by decide) (by decide) h,
    decodesTo_of_voiceStatus rfl (by decide) (by decide) h,
    decodesTo_of_voiceStatus rfl (by decide) (by decide) h,
    decodesTo_of_voiceStatus rfl (by decide) (by decide) h,
    decodesTo_of_voiceStatus rfl (by decide) (by decide) h,
    decodesTo_of_voiceStatus rfl (by decide) (by decide) h⟩

/-- Settles O18: six status bytes with their rows in the table. -/
theorem systemCommonStatusArrives : Obligations.SystemCommonStatusArrives := by
  intro s i d h
  have row {x : Instr} {b : Byte} {e : BitVec 2} {c : Nibble} (hx : encode s.cfg x = .decode i b)
      (hb : classOf b = .status) (he : expOf b = some e) (hc : cinOf b = some c) :
      DecodesTo x s i ⟨b, 0x00, 0x00, 0, e, false⟩
        (if e = 0 then some (mkPacket s.cfg.cable c b 0x00 0x00) else none) :=
    (decodesByte_of_encode hx).decodesTo_of_eq h (decodeByte_status hb he hc _ d)
  exact ⟨row rfl rfl rfl rfl, row rfl rfl rfl rfl, row rfl rfl rfl rfl, row rfl rfl rfl rfl,
    row rfl rfl rfl rfl, row rfl rfl rfl rfl⟩

/-! The sysex markers (R153, R160) -/

/-- What SX_START leaves: the start byte is buffered. -/
theorem decodeByte_start (cable : Nibble) (d : Decoder) :
    decodeByte cable 0xF0 d = (⟨0xF0, 0xF0, 0x00, 1, 0, true⟩, none) := rfl

theorem decodeByte_end_of_sx {d : Decoder} (hsx : d.sx = true) (cable : Nibble) :
    decodeByte cable 0xF7 d = (Decoder.reset,
      some (if d.n = 0 then mkPacket cable 0x5 0xF7 0x00 0x00
        else if d.n = 1 then mkPacket cable 0x6 d.buf0 0xF7 0x00
        else mkPacket cable 0x7 d.buf0 d.buf1 0xF7)) := by
  rw [decodeByte_sxEnd, sxEnd, if_pos hsx, apply_ite some, apply_ite some]
  rfl

theorem decodeByte_end_of_not_sx {d : Decoder} (hsx : d.sx = false) (cable : Nibble) :
    decodeByte cable 0xF7 d = (Decoder.reset, none) := by
  rw [decodeByte_sxEnd, sxEnd, hsx]
  rfl

/-- Settles O21: in sysex the end packet of the buffer, outside it none. -/
theorem sysexEndFlushesAndClears : Obligations.SysexEndFlushesAndClears := by
  intro s i d h
  have hx : DecodesByte (.sysexEnd i) i 0xF7 := decodesByte_of_encode (c := s.cfg) rfl
  cases hsx : d.sx with
  | false => exact hx.decodesTo_of_eq h (decodeByte_end_of_not_sx hsx _)
  | true =>
    rw [if_neg Bool.true_eq_false_eq_False, ← apply_ite some, ← apply_ite some]
    exact hx.decodesTo_of_eq h (decodeByte_end_of_sx hsx _)

/-! Data bytes (R144), case by case -/

theorem Decoder.push_of_n_zero {d : Decoder} (hn : d.n = 0) (b : Byte) :
    d.push b = { d with buf0 := b, n := 1 } := by simp [Decoder.push, hn]

theorem Decoder.push_of_n_one {d : Decoder} (hn : d.n = 1) (b : Byte) :
    d.push b = { d with buf1 := b, n := 2 } := by simp [Decoder.push, hn]

section
variable {d : Decoder} {c cable : Nibble} {b : Byte}

/-- In sysex a byte is buffered where there is room. -/
theorem dataByte_of_sx_room (hsx : d.sx = true) (hn : d.n < 2) :
    dataByte cable b d = (d.push b, none) := by
  rw [dataByte, if_pos hsx, if_pos hn]

/-- In sysex the third byte completes a chunk. -/
theorem dataByte_of_sx_full (hsx : d.sx = true) (hn : ¬d.n < 2) :
    dataByte cable b d = (d.clearBuf, some (mkPacket cable 0x4 d.buf0 d.buf1 b)) := by
  rw [dataByte, if_pos hsx, if_neg hn]

/-- Without a running status a byte is dropped. -/
theorem dataByte_of_no_status (hsx : ¬d.sx = true) (hrs : d.rs = 0x00) :
    dataByte cable b d = (d, none) := by
  rw [dataByte, if_neg hsx, if_pos hrs]

/-- After a status that takes no data bytes a byte is dropped. -/
theorem dataByte_of_exp_zero (hsx : ¬d.sx = true) (hrs : d.rs ≠ 0x00) (hexp : d.exp = 0) :
    dataByte cable b d = (d, none) := by
  rw [dataByte, if_neg hsx, if_neg hrs, if_pos hexp]

/-- A byte completes a message that takes one. -/
theorem dataByte_of_one (hsx : ¬d.sx = true) (hrs : d.rs ≠ 0x00) (hexp : d.exp = 1)
    (hn : d.n = 0) (hc : cinOf d.rs = some c) :
    dataByte cable b d = (d.clearBuf, some (mkPacket cable c d.rs b 0x00)) := by
  rw [dataByte, if_neg hsx, if_neg hrs, hexp, hn, hc]; rfl

/-- The first of two bytes is buffered. -/
theorem dataByte_of_first (hsx : ¬d.sx = true) (hrs : d.rs ≠ 0x00) (hexp : d.exp = 2)
    (hn : d.n = 0) : dataByte cable b d = (d.push b, none) := by
  rw [dataByte, if_neg hsx, if_neg hrs, hexp, hn]; rfl

/-- The second of two bytes completes the message. -/
theorem dataByte_of_second (hsx : ¬d.sx = true) (hrs : d.rs ≠ 0x00) (hexp : d.exp = 2)
    (hn : d.n = 1) (hc : cinOf d.rs = some c) :
    dataByte cable b d = (d.clearBuf, some (mkPacket cable c d.rs d.buf0 b)) := by
  rw [dataByte, if_neg hsx, if_neg hrs, hexp, hn, hc]; rfl

end

/-- A running status outside sysex has a code index number. -/
theorem Decoder.cinOf_rs {d : Decoder} (h : d.legal = true) (hsx : ¬d.sx = true)
    (hrs : d.rs ≠ 0x00) : ∃ c, cinOf d.rs = some c := by
  obtain ⟨-, -, hmatch, hsxrs, -, -, -⟩ := d.legal_iff.mp h
  have hF0 : d.rs ≠ 0xF0 := fun he => hsx (hsxrs.mpr he)
  obtain ⟨c, hc, -⟩ := Option.map_eq_some_iff.mp ((expOf_eq_map_cinOf hrs hF0).symm.trans hmatch)
  exact ⟨c, hc⟩

/-- Outside sysex an unfinished message is the first of two data bytes (R37). -/
theorem Decoder.counts_of_not_sx {d : Decoder} (h : d.legal = true) (hsx : ¬d.sx = true) :
    d.n = 0 ∨ d.n = 1 ∧ d.exp = 2 := by
  obtain ⟨⟨-, hexp3⟩, -, -, -, -, hfits, -⟩ := d.legal_iff.mp h
  have hn := hfits (Bool.eq_false_of_not_eq_true hsx)
  bv_omega

/-- Settles O22, branch by branch; R37 says which counts a branch can meet. -/
theorem dataByteBuffersOrCompletes : Obligations.DataByteBuffersOrCompletes := by
  intro s i d v h
  have ⟨_, _, hl⟩ := h
  obtain ⟨⟨hn3, hexp3⟩, -, -, -, -, -, -⟩ := d.legal_iff.mp hl
  have row {d' : Decoder} {p : Option Packet}
      (he : dataByte s.cfg.cable (dataByteOf v) d = (d', p)) : DecodesTo (.data i v) s i d' p :=
    (decodesByte_of_encode (c := s.cfg) rfl).decodesTo_of_eq h
      (by rw [decodeByte_of_data (classOf_dataByteOf v), he])
  split_ifs with hsx hn0 hn1 hrs hexp0 hexp1 hn0
  · rw [← d.push_of_n_zero hn0]
    exact row (dataByte_of_sx_room hsx (by bv_omega))
  · rw [← d.push_of_n_one hn1]
    exact row (dataByte_of_sx_room hsx (by bv_omega))
  · exact row (dataByte_of_sx_full hsx (by bv_omega))
  · exact row (dataByte_of_no_status hsx hrs)
  · exact row (dataByte_of_exp_zero hsx hrs hexp0)
  · obtain ⟨c, hc⟩ := Decoder.cinOf_rs hl hsx hrs
    have hn := Decoder.counts_of_not_sx hl hsx
    exact ⟨c, hc, row (dataByte_of_one hsx hrs hexp1 (by bv_omega) hc)⟩
  · rw [← d.push_of_n_zero hn0]
    exact row (dataByte_of_first hsx hrs (by bv_omega) hn0)
  · obtain ⟨c, hc⟩ := Decoder.cinOf_rs hl hsx hrs
    obtain hn | ⟨hn1, hexp2⟩ := Decoder.counts_of_not_sx hl hsx
    · exact absurd hn hn0
    · exact ⟨c, hc, row (dataByte_of_second hsx hrs hexp2 hn1 hc)⟩

end Sys2Proof.Machine
end

section
/-!
PROOF. A list of stream bytes (30_encoding.md R105, `decs`): the registers and the packets are those
of the dispatch of R141 iterated over the list, and a real-time byte takes no part in it but for its
own packet (40_stream_decoder.md R171).
-/

namespace Sys2Proof.Machine

/-! Every stream byte keeps R37 -/

theorem Decoder.legal_clearBuf {d : Decoder} (h : d.legal = true) : d.clearBuf.legal = true := by
  rw [Decoder.legal_iff] at h ⊢
  obtain ⟨⟨-, hexp⟩, -, hmatch, hsx, -, -, hidle⟩ := h
  have hidle' (hrs : d.rs = 0x00) : d.exp = 0 ∧ d.sx = false := (hidle hrs).2
  simpa [hmatch, hsx] using And.intro hexp hidle'

/-- A data byte keeps R37 even where the buffer breaks R33: then it completes the message. -/
theorem Decoder.legal_dataByte {d : Decoder} {b : Byte} (h : d.legal = true)
    (hb : classOf b = .data) (cable : Nibble) : (dataByte cable b d).1.legal = true := by
  by_cases hbuf : d.bufHoldsData = true
  · exact (Decoder.Sound.dataByte ⟨h, hbuf⟩ hb cable).1
  · rw [Decoder.bufHoldsData_iff] at hbuf
    push Not at hbuf
    obtain ⟨hsx, hn0, -⟩ := hbuf
    have hsx' : ¬d.sx = true := by simp [hsx]
    obtain hn | ⟨hn1, hexp2⟩ := Decoder.counts_of_not_sx h hsx'
    · exact absurd hn hn0
    · have hrs : d.rs ≠ 0x00 := by
        obtain ⟨-, -, -, -, -, -, hidle⟩ := d.legal_iff.mp h
        exact fun hrs => hn0 (hidle hrs).1
      obtain ⟨c, hc⟩ := Decoder.cinOf_rs h hsx' hrs
      rw [dataByte_of_second hsx' hrs hexp2 hn1 hc]
      exact Decoder.legal_clearBuf h

theorem Decoder.legal_decodeByte {d : Decoder} (h : d.legal = true) (cable : Nibble) (b : Byte) :
    (decodeByte cable b d).1.legal = true := by
  unfold decodeByte
  split
  next => exact h
  next => exact Decoder.reset_sound.1
  next => exact Decoder.sysexStarted_sound.1
  next hb =>
    obtain ⟨e, c, he, hc⟩ := exists_row_of_status hb
    obtain ⟨hreset, -⟩ := Decoder.reset_sound.decodeByte cable b
    rw [decodeByte_status hb he hc] at hreset
    rwa [← decodeByte_of_status hb, decodeByte_status hb he hc]
  next hb => exact Decoder.legal_dataByte h hb cable

/-! The dispatch of R141 iterated -/

/-- The registers after a list of stream bytes, and the packets emitted on the way. -/
def decodeBytes (cable : Nibble) : Decoder → ByteString → Decoder × List Packet
  | d, [] => (d, [])
  | d, b :: bs =>
    ((decodeBytes cable (decodeByte cable b d).1 bs).1,
      (decodeByte cable b d).2.toList ++ (decodeBytes cable (decodeByte cable b d).1 bs).2)

@[simp] theorem decodeBytes_nil (cable : Nibble) (d : Decoder) :
    decodeBytes cable d [] = (d, []) := rfl

/-- The first byte steps the registers, and its packet comes first. -/
theorem decodeBytes_cons (cable : Nibble) (d : Decoder) (b : Byte) (bs : ByteString) :
    decodeBytes cable d (b :: bs) =
      ((decodeBytes cable (decodeByte cable b d).1 bs).1,
        (decodeByte cable b d).2.toList ++ (decodeBytes cable (decodeByte cable b d).1 bs).2) := rfl

theorem decodeBytes_cons_of_eq {cable : Nibble} {d d' : Decoder} {b : Byte} {p : Option Packet}
    (h : decodeByte cable b d = (d', p)) (bs : ByteString) :
    decodeBytes cable d (b :: bs) =
      ((decodeBytes cable d' bs).1, p.toList ++ (decodeBytes cable d' bs).2) := by
  rw [decodeBytes_cons, h]

theorem decodeBytes_append (cable : Nibble) (d : Decoder) (u v : ByteString) :
    decodeBytes cable d (u ++ v) =
      ((decodeBytes cable (decodeBytes cable d u).1 v).1,
        (decodeBytes cable d u).2 ++ (decodeBytes cable (decodeBytes cable d u).1 v).2) := by
  induction u generalizing d with
  | nil => rfl
  | cons b u ih => simp [decodeBytes_cons, ih]

/-! The engine's run of a list -/

theorem packetsOf_packet_cons (p : Option Packet) (os : List Output) :
    packetsOf (.packet p :: os) = p.toList ++ packetsOf os := by
  cases p <;> rfl

/-- The first byte is presented alone, and its packet comes first. -/
theorem decs_cons {s t : State} {i : Nat} {b : Byte} {p : Option Packet}
    (hnext : transact s (.decode i b) = .next t) (hout : t.out = some (.packet p))
    (bs : ByteString) :
    decs s i (b :: bs) = (decs t i bs).map (fun q => (q.1, p.toList ++ q.2)) := by
  simp only [decs, List.map_cons, present_cons hnext, hout, Option.toList_some,
    List.singleton_append, Option.map_map]
  congr 1
  funext q
  simp only [Function.comp_apply, packetsOf_packet_cons]

/-- One DECODE on legal registers steps the named decoder and nothing else, and keeps R37. -/
theorem transact_decode {s : State} {i : Nat} {d : Decoder} (h : s.Holds i d) (b : Byte) :
    ∃ t, transact s (.decode i b) = .next t ∧
      t.out = some (.packet (decodeByte s.cfg.cable b d).2) ∧ t.cfg = s.cfg ∧
      t.decoders = s.decoders.set i (decodeByte s.cfg.cable b d).1 ∧
      t.Holds i (decodeByte s.cfg.cable b d).1 := by
  have hstep : DecodesTo _ { s with requests := [.decode i b] } i _ _ :=
    (decodesByte_decodeStreamByte i b).decodesTo h
  have hnext := (transact_eq s (.decode i b)).trans hstep
  have ⟨hc, _, hl⟩ := h
  exact ⟨_, hnext, rfl, rfl, rfl, (transact_configOk_eq hnext).trans hc, h.getElem?_setDecoder _,
    Decoder.legal_decodeByte hl _ b⟩

/-- `decs` on a decoder that holds legal registers runs to its end, as `decodeBytes`. -/
theorem decs_of_holds {s : State} {i : Nat} {d : Decoder} (h : s.Holds i d) (bs : ByteString) :
    ∃ t, decs s i bs = some (t, (decodeBytes s.cfg.cable d bs).2) ∧ t.cfg = s.cfg ∧
      t.decoders = s.decoders.set i (decodeBytes s.cfg.cable d bs).1 ∧
      t.Holds i (decodeBytes s.cfg.cable d bs).1 := by
  induction bs generalizing s d with
  | nil => exact ⟨s, rfl, rfl, h.set_decoders.symm, h⟩
  | cons b bs ih =>
    obtain ⟨t, hnext, hout, hcfg, hdec, ht⟩ := transact_decode h b
    obtain ⟨u, hrun, hcfg', hdec', hu⟩ := ih ht
    rw [hcfg] at hrun hcfg' hdec' hu
    refine ⟨u, ?_, hcfg', ?_, hu⟩
    · rw [decs_cons hnext hout, hrun]; rfl
    · rw [hdec', hdec, List.set_set]; rfl

theorem decs_of_decodeBytes {s : State} {i : Nat} {d d' : Decoder} {bs : ByteString}
    {ps : List Packet} (h : s.Holds i d) (hrun : decodeBytes s.cfg.cable d bs = (d', ps)) :
    ∃ t, decs s i bs = some (t, ps) ∧ t.decoders = s.decoders.set i d' := by
  obtain ⟨t, ht, -, hdec, -⟩ := decs_of_holds h bs
  rw [hrun] at ht hdec
  exact ⟨t, ht, hdec⟩

/-! Real-time bytes anywhere -/

/-- A real-time byte inserted anywhere adds its packet in its place. -/
theorem decodeBytes_insert_rt {r : Byte} (hr : classOf r = .rt) (cable : Nibble) (d : Decoder)
    (u v : ByteString) :
    decodeBytes cable d (u ++ r :: v) =
      ((decodeBytes cable d (u ++ v)).1, (decodeBytes cable d u).2 ++
        mkPacket cable 0xF r 0x00 0x00 :: (decodeBytes cable (decodeBytes cable d u).1 v).2) := by
  simp only [decodeBytes_append, decodeBytes_cons_of_eq (decodeByte_rt hr cable _),
    Option.toList_some, List.singleton_append]

/-- Settles O26: a real-time byte returns its packet and leaves the registers as they are. -/
theorem realTimeBytesAreTransparent : Obligations.RealTimeBytesAreTransparent := by
  intro s i d r h hr
  have hrt : classOf r = .rt := (streamBytesFallInTheirClasses r).1.mpr hr
  refine ⟨(decodesByte_decodeStreamByte i r).answers_of_rt hrt h, fun u v => ?_⟩
  obtain ⟨t₁, hu, -⟩ := decs_of_holds h u
  obtain ⟨t₂, huv, hdec₂⟩ := decs_of_decodeBytes h (decodeBytes_append s.cfg.cable d u v)
  obtain ⟨t₃, hurv, hdec₃⟩ := decs_of_decodeBytes h (decodeBytes_insert_rt hrt s.cfg.cable d u v)
  refine ⟨t₁, t₂, t₃, _, _, hu, huv, hurv, ?_⟩
  rw [hdec₃, hdec₂, decodeBytes_append]

end Sys2Proof.Machine
end

section
/-!
PROOF. Running status (40_stream_decoder.md R172): the data bytes after a status fall into messages of
the length its row gives, and each message leaves the registers as the status left them.
-/

namespace Sys2Proof.Machine

/-! The packets of consecutive messages -/

theorem singlePackets_eq_map (cable cin : Nibble) (st : Byte) (ds : ByteString) :
    singlePackets cable cin st ds = ds.map (fun x => mkPacket cable cin st x 0x00) := by
  induction ds with
  | nil => rfl
  | cons x ds ih => rw [singlePackets, ih, List.map_cons]

theorem lane0_of_mem_singlePackets {cable cin : Nibble} {st : Byte} {ds : ByteString} {p : Packet}
    (hp : p ∈ singlePackets cable cin st ds) : lane0 p = st := by
  rw [singlePackets_eq_map] at hp
  obtain ⟨x, -, rfl⟩ := List.mem_map.mp hp
  exact lane0_packetOf _ _ _ _ _

theorem pairPackets_length (cable cin : Nibble) (st : Byte) (ds : ByteString) :
    (pairPackets cable cin st ds).length = ds.length / 2 := by
  fun_induction pairPackets cable cin st ds with
  | case1 x y rest ih => simp only [List.length_cons, ih]; omega
  | case2 => simp
  | case3 => rfl

theorem lane0_of_mem_pairPackets {cable cin : Nibble} {st : Byte} {ds : ByteString} {p : Packet}
    (hp : p ∈ pairPackets cable cin st ds) : lane0 p = st := by
  fun_induction pairPackets cable cin st ds with
  | case1 x y rest ih =>
    obtain rfl | hp := List.mem_cons.mp hp
    · exact lane0_packetOf _ _ _ _ _
    · exact ih hp
  | case2 => cases hp
  | case3 => cases hp

/-! The run of the data bytes -/

section
variable {st : Byte} {c : Nibble} {ds : ByteString}

/-- Each byte is a message where the status takes one. -/
theorem decodeBytes_singles (hst : st ≠ 0x00) (hc : cinOf st = some c) (hds : AllData ds)
    (cable : Nibble) :
    decodeBytes cable ⟨st, 0x00, 0x00, 0, 1, false⟩ ds =
      (⟨st, 0x00, 0x00, 0, 1, false⟩, singlePackets cable c st ds) := by
  induction ds with
  | nil => rfl
  | cons x ds ih =>
    obtain ⟨hx, hrest⟩ := List.forall_mem_cons.mp hds
    have hstep := dataByte_of_one (d := ⟨st, 0x00, 0x00, 0, 1, false⟩) (cable := cable) (b := x)
      Bool.false_ne_true hst rfl rfl hc
    rw [← decodeByte_of_data hx] at hstep
    rw [decodeBytes_cons_of_eq hstep, Decoder.clearBuf, ih hrest]
    rfl

/-- Each two bytes are a message where the status takes two. -/
theorem decodeBytes_pairs (hst : st ≠ 0x00) (hc : cinOf st = some c) (hds : AllData ds)
    (hlen : 2 ∣ ds.length) (cable : Nibble) :
    decodeBytes cable ⟨st, 0x00, 0x00, 0, 2, false⟩ ds =
      (⟨st, 0x00, 0x00, 0, 2, false⟩, pairPackets cable c st ds) := by
  fun_induction pairPackets cable c st ds with
  | case1 x y rest ih =>
    obtain ⟨hx, hds⟩ := List.forall_mem_cons.mp hds
    obtain ⟨hy, hrest⟩ := List.forall_mem_cons.mp hds
    have hfirst := dataByte_of_first (d := ⟨st, 0x00, 0x00, 0, 2, false⟩) (cable := cable) (b := x)
      Bool.false_ne_true hst rfl rfl
    have hsecond := dataByte_of_second (d := ⟨st, x, 0x00, 1, 2, false⟩) (cable := cable) (b := y)
      Bool.false_ne_true hst rfl rfl hc
    rw [← decodeByte_of_data hx, Decoder.push_of_n_zero rfl] at hfirst
    rw [← decodeByte_of_data hy] at hsecond
    rw [decodeBytes_cons_of_eq hfirst, decodeBytes_cons_of_eq hsecond, Decoder.clearBuf,
      ih hrest ((Nat.dvd_add_left (Nat.dvd_refl 2)).mp hlen)]
    rfl
  | case2 x => exact absurd hlen (by simp)
  | case3 => rfl

end

/-- Settles O27: the status, then its messages, of one data byte or of two. -/
theorem runningStatusRepeatsTheStatus : Obligations.RunningStatusRepeatsTheStatus := by
  intro s i d st ds m h hst hds
  have h00 : st ≠ 0x00 := by rintro rfl; cases hst
  obtain ⟨e, c, he, hc⟩ := exists_row_of_status hst
  have arrival := decodeByte_status hst he hc s.cfg.cable d
  refine ⟨fun hone hlen => ?_, fun htwo hlen => ?_⟩
  · obtain rfl : e = 1 := Option.some.inj (he.symm.trans hone)
    have hrun := decodeBytes_cons_of_eq arrival ds
    rw [decodeBytes_singles h00 hc hds] at hrun
    obtain ⟨t, ht, -⟩ := decs_of_decodeBytes h hrun
    refine ⟨c, t, _, hc, ht, rfl, ?_, fun p hp => ?_⟩
    · simpa [singlePackets_eq_map] using hlen
    · exact lane0_of_mem_singlePackets hp
  · obtain rfl : e = 2 := Option.some.inj (he.symm.trans htwo)
    have hrun := decodeBytes_cons_of_eq arrival ds
    rw [decodeBytes_pairs h00 hc hds (Dvd.intro_left m hlen.symm)] at hrun
    obtain ⟨t, ht, -⟩ := decs_of_decodeBytes h hrun
    refine ⟨c, t, _, hc, ht, rfl, ?_, fun p hp => lane0_of_mem_pairPackets hp⟩
    simp [pairPackets_length, hlen]

end Sys2Proof.Machine
end

section
/-!
PROOF. System exclusive (40_stream_decoder.md R153, R173): the buffer holds the bytes that are still to
come out, and real-time bytes anywhere leave the other packets as they are (R171).
-/

namespace Sys2Proof.Machine

/-! The bytes still to come out -/

/-- The unflushed bytes, `BUF[0..N)` (10_state.md R37). -/
def Decoder.buffered (d : Decoder) : ByteString := [d.buf0, d.buf1].take d.n.toNat

/-- A byte buffered where there is room comes out after those before it. -/
theorem Decoder.buffered_push {d : Decoder} (hn : d.n < 2) (b : Byte) :
    (d.push b).buffered = d.buffered ++ [b] := by
  obtain hn | hn : d.n = 0 ∨ d.n = 1 := by bv_omega
  · simp [d.push_of_n_zero hn, Decoder.buffered, hn]
  · simp [d.push_of_n_one hn, Decoder.buffered, hn]

theorem Decoder.buffered_of_full {d : Decoder} (hn : d.n = 2) : d.buffered = [d.buf0, d.buf1] := by
  simp [Decoder.buffered, hn]

/-- The end marker sends out what the buffer holds. -/
theorem decodeBytes_end_buffered {d : Decoder} (hsx : d.sx = true) (hn : d.n ≠ 3)
    (cable : Nibble) :
    decodeBytes cable d [0xF7] = (Decoder.reset, sysexPackets cable d.buffered) := by
  rw [decodeBytes_cons_of_eq (decodeByte_end_of_sx hsx cable)]
  obtain hn | hn | hn : d.n = 0 ∨ d.n = 1 ∨ d.n = 2 := by bv_omega
  all_goals simp [Decoder.buffered, hn, sysexPackets]

/-- The data bytes of a sysex and its end marker, from any number of buffered bytes. -/
theorem decodeBytes_sysex {d : Decoder} {ds : ByteString} (hsx : d.sx = true) (hn : d.n ≠ 3)
    (hds : AllData ds) (cable : Nibble) :
    decodeBytes cable d (ds ++ [0xF7]) = (Decoder.reset, sysexPackets cable (d.buffered ++ ds)) := by
  induction ds generalizing d with
  | nil => rw [List.nil_append, List.append_nil, decodeBytes_end_buffered hsx hn]
  | cons b ds ih =>
    obtain ⟨hb, hrest⟩ := List.forall_mem_cons.mp hds
    have hstep := decodeByte_of_data hb cable
    by_cases hroom : d.n < 2
    · have hpush := (congrFun hstep d).trans (dataByte_of_sx_room hsx hroom)
      have hn' : (d.push b).n ≠ 3 := by rw [Decoder.push_n]; bv_omega
      rw [List.cons_append, decodeBytes_cons_of_eq hpush, ih (d := d.push b) hsx hn' hrest,
        Decoder.buffered_push hroom, List.append_assoc]
      rfl
    · have hflush := (congrFun hstep d).trans (dataByte_of_sx_full hsx hroom)
      have hfull : d.buffered = [d.buf0, d.buf1] := Decoder.buffered_of_full (by bv_omega)
      rw [List.cons_append, decodeBytes_cons_of_eq hflush, ih (d := d.clearBuf) hsx (by simp) hrest,
        hfull]
      rfl

/-- A whole sysex, from any registers. -/
theorem decodeBytes_whole_sysex {ds : ByteString} (hds : AllData ds) (cable : Nibble)
    (d : Decoder) :
    decodeBytes cable d (0xF0 :: ds ++ [0xF7]) =
      (Decoder.reset, sysexPackets cable (0xF0 :: ds)) := by
  rw [List.cons_append, decodeBytes_cons_of_eq (decodeByte_start cable d),
    decodeBytes_sysex rfl (by decide) hds]
  rfl

/-- The packets of a sysex: the chunks of three bytes, and the end packet with what is left. -/
theorem sysexPackets_eq_append (cable : Nibble) (bs : ByteString) :
    ∃ ps q, sysexPackets cable bs = ps ++ [q] ∧ ps.length = bs.length / 3 ∧
      (∀ p ∈ ps, cinOfPacket p = 0x4) ∧ cinOfPacket q = BitVec.ofNat 4 (5 + bs.length % 3) := by
  fun_induction sysexPackets cable bs with
  | case1 x y z rest ih =>
    obtain ⟨ps, q, heq, hlen, hps, hq⟩ := ih
    refine ⟨mkPacket cable 0x4 x y z :: ps, q, by rw [heq]; rfl, ?_, ?_, ?_⟩
    · simp only [List.length_cons, hlen]; omega
    · exact List.forall_mem_cons.mpr ⟨cinOfPacket_packetOf _ _ _ _ _, hps⟩
    · have hmod : (x :: y :: z :: rest).length % 3 = rest.length % 3 := Nat.add_mod_right _ 3
      rw [hq, hmod]
  | case2 x y => exact ⟨[], _, rfl, by simp, nofun, cinOfPacket_packetOf _ _ _ _ _⟩
  | case3 x => exact ⟨[], _, rfl, by simp, nofun, cinOfPacket_packetOf _ _ _ _ _⟩
  | case4 => exact ⟨[], _, rfl, rfl, nofun, cinOfPacket_packetOf _ _ _ _ _⟩

/-! Real-time bytes anywhere in it -/

/-- The status table gives no status the code index number of the real-time bytes (R93). -/
theorem cinOf_ne_rt (b : Byte) : cinOf b ≠ some 0xF := by
  revert b; decide

theorem cinOfPacket_of_cinOf {s p0 p1 p2 : Byte} {cable : Nibble} {p : Packet}
    (h : (cinOf s).map (fun c => mkPacket cable c p0 p1 p2) = some p) : cinOfPacket p ≠ 0xF := by
  obtain ⟨c, hc, rfl⟩ := Option.map_eq_some_iff.mp h
  rw [mkPacket_eq, cinOfPacket_packetOf]
  rintro rfl
  exact cinOf_ne_rt s hc

/-- Only a real-time byte emits a packet of code index number 0xF. -/
theorem decodeByte_cin_ne_rt {cable : Nibble} {b : Byte} {d : Decoder} {p : Packet}
    (hb : classOf b ≠ .rt) (h : (decodeByte cable b d).2 = some p) : cinOfPacket p ≠ 0xF := by
  unfold decodeByte at h
  split at h
  next hrt => exact absurd hrt hb
  next =>
    unfold sxEnd at h
    split_ifs at h
    all_goals
      cases h
      simp [mkPacket_eq]
  next => cases h
  next =>
    unfold statusArrival at h
    split at h
    · cases h
    · split_ifs at h
      exact cinOfPacket_of_cinOf h
  next =>
    unfold dataByte at h
    split_ifs at h
    · cases h
      simp [mkPacket_eq]
    · exact cinOfPacket_of_cinOf h
    · exact cinOfPacket_of_cinOf h

theorem filter_other_of_not_rt {b : Byte} (hb : classOf b ≠ .rt) (cable : Nibble) (d : Decoder) :
    (decodeByte cable b d).2.toList.filter (fun p => cinOfPacket p != 0xF) =
      (decodeByte cable b d).2.toList :=
  List.filter_eq_self.mpr fun _ hp =>
    bne_iff_ne.mpr (decodeByte_cin_ne_rt hb (Option.mem_toList.mp hp))

theorem filter_rt_of_not_rt {b : Byte} (hb : classOf b ≠ .rt) (cable : Nibble) (d : Decoder) :
    (decodeByte cable b d).2.toList.filter (fun p => cinOfPacket p == 0xF) = [] :=
  List.filter_eq_nil_iff.mpr fun _ hp =>
    mt eq_of_beq (decodeByte_cin_ne_rt hb (Option.mem_toList.mp hp))

/-- Without its real-time bytes a list leaves the same registers and emits the other packets. -/
theorem decodeBytes_filter_not_rt (cable : Nibble) (d : Decoder) (w : ByteString) :
    decodeBytes cable d (w.filter (fun b => classOf b != .rt)) =
      ((decodeBytes cable d w).1,
        (decodeBytes cable d w).2.filter (fun p => cinOfPacket p != 0xF)) := by
  induction w generalizing d with
  | nil => rfl
  | cons b w ih =>
    by_cases hb : classOf b = .rt
    · rw [List.filter_cons_of_neg (by simp [hb]), ih,
        decodeBytes_cons_of_eq (decodeByte_rt hb cable d), Option.toList_some,
        List.singleton_append, List.filter_cons_of_neg (by simp [mkPacket_eq])]
    · rw [List.filter_cons_of_pos (by simpa using hb), decodeBytes_cons, decodeBytes_cons, ih,
        List.filter_append, filter_other_of_not_rt hb]

/-- The packets of code index number 0xF are those of the real-time bytes, in order. -/
theorem filter_rt_decodeBytes (cable : Nibble) (d : Decoder) (w : ByteString) :
    (decodeBytes cable d w).2.filter (fun p => cinOfPacket p == 0xF) =
      (w.filter (fun b => classOf b == .rt)).map (fun r => mkPacket cable 0xF r 0x00 0x00) := by
  induction w generalizing d with
  | nil => rfl
  | cons b w ih =>
    by_cases hb : classOf b = .rt
    · rw [List.filter_cons_of_pos (by simp [hb]), decodeBytes_cons_of_eq (decodeByte_rt hb cable d),
        Option.toList_some, List.singleton_append, List.filter_cons_of_pos (by simp [mkPacket_eq]),
        ih, List.map_cons]
    · rw [List.filter_cons_of_neg (by simpa using hb), decodeBytes_cons, List.filter_append,
        filter_rt_of_not_rt hb, List.nil_append, ih]

/-- Settles O28, from any registers: the whole sysex, then what real-time bytes leave of it. -/
theorem sysexComesOutInChunks : Obligations.SysexComesOutInChunks := by
  intro s i d ds h _ hds
  have hrun := decodeBytes_whole_sysex hds s.cfg.cable d
  refine ⟨?_, fun w hw => ?_⟩
  · obtain ⟨t, ht, hdec⟩ := decs_of_decodeBytes h hrun
    obtain ⟨ps, q, heq, hlen, hps, hq⟩ := sysexPackets_eq_append s.cfg.cable (0xF0 :: ds)
    exact ⟨t, ps, q, heq ▸ ht, heq.symm, hlen, hps, hq, hdec⟩
  · obtain ⟨t, ht, -, hdec, -⟩ := decs_of_holds h w
    have hfilter := decodeBytes_filter_not_rt s.cfg.cable d w
    rw [hw, hrun, Prod.mk.injEq] at hfilter
    obtain ⟨hregs, hother⟩ := hfilter
    rw [← hregs] at hdec
    exact ⟨t, _, ht, hother.symm, filter_rt_decodeBytes _ d w, hdec⟩

/-- Settles O20: the bytes after the start byte run from the registers it leaves. -/
theorem sysexStartBuffersTheStartByte : Obligations.SysexStartBuffersTheStartByte := by
  intro s i d h
  have start := decodeByte_start s.cfg.cable d
  refine ⟨(decodesByte_of_encode (c := s.cfg) rfl).decodesTo_of_eq h start, fun x y hx hy => ?_⟩
  have first : decodeByte s.cfg.cable x ⟨0xF0, 0xF0, 0x00, 1, 0, true⟩ =
      (⟨0xF0, 0xF0, x, 2, 0, true⟩, none) := by rw [decodeByte_of_data hx]; rfl
  have second : decodeByte s.cfg.cable y ⟨0xF0, 0xF0, x, 2, 0, true⟩ =
      (⟨0xF0, 0x00, 0x00, 0, 0, true⟩, some (mkPacket s.cfg.cable 0x4 0xF0 x y)) := by
    rw [decodeByte_of_data hy]; rfl
  have run {bs : ByteString} {ps : List Packet}
      (hps : (decodeBytes s.cfg.cable d bs).2 = ps) : ∃ t, decs s i bs = some (t, ps) := by
    obtain ⟨t, ht, -⟩ := decs_of_holds h bs
    exact ⟨t, hps ▸ ht⟩
  refine ⟨run ?_, run ?_, run ?_, run ?_⟩
  · rw [decodeBytes_cons_of_eq start, decodeBytes_cons_of_eq first]; rfl
  · rw [decodeBytes_cons_of_eq start, decodeBytes_cons_of_eq first, decodeBytes_cons_of_eq second]
    rfl
  · exact congrArg Prod.snd (decodeBytes_whole_sysex (List.forall_mem_singleton.mpr hx) _ d)
  · exact congrArg Prod.snd (decodeBytes_whole_sysex (List.forall_mem_nil _) _ d)

end Sys2Proof.Machine
end

section
/-!
PROOF. EXPAND (41_packet_expander.md R201 to R218): the count is the length of the code index number, the
lanes below it are copied unchecked, and the cable is not read.
-/

namespace Sys2Proof.Machine

/-! The rows by the length of their code index number (R95, R201) -/

section
variable {x : Instr} {s : State} {cin : Nibble} {p0 p1 p2 : Byte}
  (hx : ∀ s, exec x s = pureOp s (expandLanes cin p0 p1 p2)) (hc : s.configOk = true)
include hx hc

/-- A row that expands a packet answers the lanes of that packet. -/
theorem answers_of_expandLanes : Answers x s (expandLanes cin p0 p1 p2) :=
  answers_of_pureOp (o := fun _ => expandLanes cin p0 p1 p2) hx hc

theorem answers_of_len_zero (hlen : cinLen cin = 0) :
    Answers x s (.expanded 0 0x00 0x00 0x00) := by
  simpa [expandLanes, laneOut, hlen] using answers_of_expandLanes hx hc

theorem answers_of_len_one (hlen : cinLen cin = 1) : Answers x s (.expanded 1 p0 0x00 0x00) := by
  simpa [expandLanes, laneOut, hlen] using answers_of_expandLanes hx hc

theorem answers_of_len_two (hlen : cinLen cin = 2) : Answers x s (.expanded 2 p0 p1 0x00) := by
  simpa [expandLanes, laneOut, hlen] using answers_of_expandLanes hx hc

theorem answers_of_len_three (hlen : cinLen cin = 3) : Answers x s (.expanded 3 p0 p1 p2) := by
  simpa [expandLanes, laneOut, hlen] using answers_of_expandLanes hx hc

end

/-- Settles O31: the two rows of length 0, and no emitted packet is one of theirs (R45). -/
theorem reservedCinsExpandToNothing : Obligations.ReservedCinsExpandToNothing := by
  refine ⟨fun s cn p0 p1 p2 hc => ?_, fun x i s t p hi ht hp => ?_⟩
  · exact ⟨answers_of_len_zero (fun _ => rfl) hc rfl, answers_of_len_zero (fun _ => rfl) hc rfl⟩
  · obtain ⟨-, h0, h1, -, -⟩ := emittedPacketsAreWellMade x i s t p hi ht hp
    exact ⟨h0, h1⟩

/-- Settles O32: the two rows of length 1. -/
theorem singleByteCinsExpandToOne : Obligations.SingleByteCinsExpandToOne := fun _ _ _ _ _ hc =>
  ⟨answers_of_len_one (fun _ => rfl) hc rfl, answers_of_len_one (fun _ => rfl) hc rfl⟩

/-- Settles O33: the four rows of length 2. -/
theorem twoByteCinsExpandToTwo : Obligations.TwoByteCinsExpandToTwo := fun _ _ _ _ _ hc =>
  ⟨answers_of_len_two (fun _ => rfl) hc rfl, answers_of_len_two (fun _ => rfl) hc rfl,
    answers_of_len_two (fun _ => rfl) hc rfl, answers_of_len_two (fun _ => rfl) hc rfl⟩

/-- Settles O34: the eight rows of length 3. -/
theorem threeByteCinsExpandToThree : Obligations.ThreeByteCinsExpandToThree := fun _ _ _ _ _ hc =>
  ⟨answers_of_len_three (fun _ => rfl) hc rfl, answers_of_len_three (fun _ => rfl) hc rfl,
    answers_of_len_three (fun _ => rfl) hc rfl, answers_of_len_three (fun _ => rfl) hc rfl,
    answers_of_len_three (fun _ => rfl) hc rfl, answers_of_len_three (fun _ => rfl) hc rfl,
    answers_of_len_three (fun _ => rfl) hc rfl, answers_of_len_three (fun _ => rfl) hc rfl⟩

/-! Every packet (R201) -/

/-- CIN_LEN is the table of R95, read from left to right. -/
theorem cinLen_getElem? (cin : Nibble) :
    ([0, 0, 2, 3, 3, 1, 2, 3, 3, 3, 3, 3, 2, 2, 3, 1] : List Nat)[cin.toNat]? =
      some (cinLen cin).toNat := by
  revert cin; decide

/-- EXPAND of any packet answers the lanes of its code index number. -/
theorem answers_decodePacket (p : Packet) {s : State} (hc : s.configOk = true) :
    Answers (decodePacket p) s (expandLanes (cinOfPacket p) (lane0 p) (lane1 p) (lane2 p)) :=
  answers_of_expandLanes (exec_decodePacket p) hc

/-- Settles O35: R201 on the fields of the packet, with the length its table gives. -/
theorem expandFollowsCinLen : Obligations.ExpandFollowsCinLen := fun _ p hc =>
  ⟨_, _, _, _, answers_decodePacket p hc, cinLen_getElem? (cinOfPacket p), rfl, rfl, rfl⟩

/-! The cable (R218) -/

/-- Packets that agree on bits 27:0 agree on every field below the cable. -/
theorem extractLsb'_eq_of_low_eq {p q : Packet} (h : p.extractLsb' 0 28 = q.extractLsb' 0 28)
    {start len : Nat} (hle : start + len ≤ 28) :
    p.extractLsb' start len = q.extractLsb' start len := by
  ext k hk
  have hbit := congrArg (·.getLsbD (start + k)) h
  have hlt : start + k < 28 := by omega
  simpa [hlt] using hbit

/-- Settles O36: R201 reads the code index number and the lanes, all of them in bits 27:0. -/
theorem expandIgnoresTheCable : Obligations.ExpandIgnoresTheCable := by
  intro s p q h
  have hcin : cinOfPacket p = cinOfPacket q := extractLsb'_eq_of_low_eq h (by decide)
  have h0 : lane0 p = lane0 q := extractLsb'_eq_of_low_eq h (by decide)
  have h1 : lane1 p = lane1 q := extractLsb'_eq_of_low_eq h (by decide)
  have h2 : lane2 p = lane2 q := extractLsb'_eq_of_low_eq h (by decide)
  calc exec (decodePacket p) s
      = pureOp s (expandLanes (cinOfPacket p) (lane0 p) (lane1 p) (lane2 p)) :=
        exec_decodePacket p s
    _ = pureOp s (expandLanes (cinOfPacket q) (lane0 q) (lane1 q) (lane2 q)) := by
        rw [hcin, h0, h1, h2]
    _ = exec (decodePacket q) s := (exec_decodePacket q s).symm

end Sys2Proof.Machine
end

section
/-!
PROOF. DECODE and then EXPAND (41_packet_expander.md R220, R221): the stream bytes of each packet, and of
the packets of a message or of a sysex, joined.
-/

namespace Sys2Proof.Machine

/-! The stream bytes of a packet -/

/-- The bytes `out[0..count)` of EXPAND (R201). -/
def packetBytes (p : Packet) : ByteString :=
  [lane0 p, lane1 p, lane2 p].take (cinLen (cinOfPacket p)).toNat

@[simp] theorem packetBytes_mkPacket (cable cin : Nibble) (p0 p1 p2 : Byte) :
    packetBytes (mkPacket cable cin p0 p1 p2) = [p0, p1, p2].take (cinLen cin).toNat := by
  simp [packetBytes, mkPacket_eq]

/-- The lanes that count are the packet's own. -/
theorem take_laneOut (count : BitVec 2) (p0 p1 p2 : Byte) :
    [laneOut count 0 p0, laneOut count 1 p1, laneOut count 2 p2].take count.toNat =
      [p0, p1, p2].take count.toNat := by
  obtain rfl | rfl | rfl | rfl : count = 0 ∨ count = 1 ∨ count = 2 ∨ count = 3 := by bv_omega
  all_goals rfl

theorem expandBytes_of_configOk {s : State} (hc : s.configOk = true) (p : Packet) :
    ∃ t, expandBytes s p = some (t, packetBytes p) := by
  have hrun := (transact_eq s (.expand p)).trans (answers_decodePacket p hc)
  simp only [expandBytes, hrun, expandLanes, take_laneOut]
  exact ⟨_, rfl⟩

theorem expandAll_of_configOk {s : State} (hc : s.configOk = true) (ps : List Packet) :
    expandAll s ps = some (ps.flatMap packetBytes) := by
  induction ps with
  | nil => rfl
  | cons p ps ih =>
    obtain ⟨t, ht⟩ := expandBytes_of_configOk hc p
    simp only [expandAll, ht, ih, List.flatMap_cons]

/-! A complete message (R220) -/

/-- The length of a status's code index number counts the status and its data bytes (R93, R95). -/
theorem cinLen_of_status {b : Byte} {e : BitVec 2} {c : Nibble} (hb : classOf b = .status)
    (he : expOf b = some e) (hc : cinOf b = some c) : cinLen c = e + 1 := by
  have h00 : b ≠ 0x00 := by rintro rfl; cases hb
  have hF0 : b ≠ 0xF0 := by rintro rfl; cases hb
  have hlen := expOf_eq_map_cinOf h00 hF0
  rw [he, hc, Option.map_some, Option.some.injEq] at hlen
  rw [hlen, BitVec.sub_add_cancel]

/-- A status and its data bytes: the packet comes on the last byte and holds them all. -/
theorem decodeBytes_status_message {b : Byte} {rest : ByteString} {e : BitVec 2}
    (hb : classOf b = .status) (hrest : AllData rest) (he : expOf b = some e)
    (hlen : e.toNat = rest.length) (cable : Nibble) (d : Decoder) :
    (decodeBytes cable d (b :: rest).dropLast).2 = [] ∧
      ∃ p, (decodeBytes cable d (b :: rest)).2 = [p] ∧ packetBytes p = b :: rest := by
  have h00 : b ≠ 0x00 := by rintro rfl; cases hb
  obtain ⟨_, c, -, hc⟩ := exists_row_of_status hb
  have arrival := decodeByte_status hb he hc cable d
  have hcin := cinLen_of_status hb he hc
  match rest with
  | [] =>
    obtain rfl : e = 0 := BitVec.eq_of_toNat_eq hlen
    refine ⟨rfl, mkPacket cable c b 0x00 0x00, ?_, by simp [hcin]⟩
    rw [decodeBytes_cons_of_eq arrival]
    rfl
  | [x] =>
    obtain rfl : e = 1 := BitVec.eq_of_toNat_eq hlen
    refine ⟨?_, mkPacket cable c b x 0x00, ?_, by simp [hcin]⟩
    · rw [List.dropLast_cons_cons, List.dropLast_singleton, decodeBytes_cons_of_eq arrival]
      rfl
    · rw [decodeBytes_cons_of_eq arrival, decodeBytes_singles h00 hc hrest]
      rfl
  | [x, y] =>
    obtain rfl : e = 2 := BitVec.eq_of_toNat_eq hlen
    refine ⟨?_, mkPacket cable c b x y, ?_, by simp [hcin]⟩
    · have first := dataByte_of_first (d := ⟨b, 0x00, 0x00, 0, 2, false⟩) (cable := cable) (b := x)
        Bool.false_ne_true h00 rfl rfl
      rw [← decodeByte_of_data (hrest x (by simp))] at first
      rw [List.dropLast_cons_cons, List.dropLast_cons_cons, List.dropLast_singleton,
        decodeBytes_cons_of_eq arrival, decodeBytes_cons_of_eq first]
      rfl
    · rw [decodeBytes_cons_of_eq arrival, decodeBytes_pairs h00 hc hrest (by simp)]
      rfl
  | _ :: _ :: _ :: _ =>
    simp only [List.length_cons] at hlen
    obtain rfl : e = 3 := by bv_omega
    exact absurd he (expOf_ne_three b)

/-- Every complete message, from any registers. -/
theorem decodeBytes_completeMessage {m : ByteString} (hm : CompleteMessage m) (cable : Nibble)
    (d : Decoder) :
    (decodeBytes cable d m.dropLast).2 = [] ∧
      ∃ p, (decodeBytes cable d m).2 = [p] ∧ packetBytes p = m := by
  cases m with
  | nil => exact hm.elim
  | cons b rest =>
    obtain ⟨hrt, rfl⟩ | ⟨hb, hrest, hlen⟩ := hm
    · refine ⟨rfl, mkPacket cable 0xF b 0x00 0x00, ?_, by simp [cinLen]⟩
      rw [decodeBytes_cons_of_eq (decodeByte_rt hrt cable d)]
      rfl
    · obtain ⟨e, he, hlen⟩ := Option.map_eq_some_iff.mp hlen
      exact decodeBytes_status_message hb hrest he hlen cable d

/-- Settles O29: the packet of the message, and EXPAND of it on the engine the run leaves. -/
theorem messageSurvivesDecodeAndExpand : Obligations.MessageSurvivesDecodeAndExpand := by
  intro s i d m h _ _ hm
  obtain ⟨hinit, p, hp, hbytes⟩ := decodeBytes_completeMessage hm s.cfg.cable d
  obtain ⟨t₁, ht₁, -⟩ := decs_of_holds h m.dropLast
  obtain ⟨t₂, ht₂, -, -, hc, -⟩ := decs_of_holds h m
  rw [hinit] at ht₁
  rw [hp] at ht₂
  exact ⟨⟨t₁, ht₁⟩, t₂, p, ht₂, hbytes ▸ expandBytes_of_configOk hc p⟩

/-! A sysex (R221) -/

/-- The packets of a sysex hold its bytes, in order, and the end marker. -/
theorem flatMap_packetBytes_sysexPackets (cable : Nibble) (bs : ByteString) :
    (sysexPackets cable bs).flatMap packetBytes = bs ++ [0xF7] := by
  fun_induction sysexPackets cable bs with
  | case1 x y z rest ih => simp [ih, cinLen]
  | case2 x y => simp [cinLen]
  | case3 x => simp [cinLen]
  | case4 => simp [cinLen]

/-- Settles O30: without the real-time bytes the packets are those of the sysex alone, from any
registers. -/
theorem sysexReassembles : Obligations.SysexReassembles := by
  intro s i d ds w h hds hw
  obtain ⟨t, ht, -, -, hc, -⟩ := decs_of_holds h w
  have hother := decodeBytes_filter_not_rt s.cfg.cable d w
  rw [hw, decodeBytes_whole_sysex hds, Prod.mk.injEq] at hother
  obtain ⟨-, hother⟩ := hother
  refine ⟨t, _, ht, ?_⟩
  rw [expandAll_of_configOk hc, ← hother, flatMap_packetBytes_sysexPackets]

end Sys2Proof.Machine
end

section
/-!
PROOF. The HexCodec (42_hex_codec.md R230 to R236): HEX_DECODE, position by position, answers the one
value whose nibbles are the digits of the first eight characters; HEX_ENCODE writes such characters.
-/

namespace Sys2Proof.Machine

/-! The alphabet (R231, R233) -/

/-- A decimal digit has its value. -/
theorem nibbleOf_decimal (u : Bool) (k : Fin 10) :
    nibbleOf u (BitVec.ofNat 8 (0x30 + k)) = some (BitVec.ofNat 4 k) := by
  revert u k; decide

/-- A lowercase letter has its value, with uppercase accepted or not. -/
theorem nibbleOf_lowercase (u : Bool) (k : Fin 6) :
    nibbleOf u (BitVec.ofNat 8 (0x61 + k)) = some (BitVec.ofNat 4 (10 + k)) := by
  revert u k; decide

/-- An uppercase letter has its value exactly where CFG_HEX_UPPER is 1. -/
theorem nibbleOf_uppercase (u : Bool) (k : Fin 6) :
    nibbleOf u (BitVec.ofNat 8 (0x41 + k)) = if u then some (BitVec.ofNat 4 (10 + k)) else none := by
  revert u k; decide

/-- A byte outside the three ranges is no hex character. -/
theorem nibbleOf_eq_none {ch : Byte} (hdecimal : ¬(0x30 ≤ ch ∧ ch ≤ 0x39))
    (hlower : ¬(0x61 ≤ ch ∧ ch ≤ 0x66)) (hupper : ¬(0x41 ≤ ch ∧ ch ≤ 0x46)) (u : Bool) :
    nibbleOf u ch = none := by
  rw [nibbleOf, if_neg hdecimal, if_neg hlower, if_neg fun h => hupper h.2]

/-- The digit of a nibble is a decimal digit or a lowercase letter. -/
theorem hexDigit_range (x : Nibble) :
    (0x30 ≤ hexDigit x ∧ hexDigit x ≤ 0x39) ∨ (0x61 ≤ hexDigit x ∧ hexDigit x ≤ 0x66) := by
  revert x; decide

/-- Settles O39: range by range. -/
theorem hexAlphabetIsTheStatedOne : Obligations.HexAlphabetIsTheStatedOne :=
  ⟨nibbleOf_decimal, fun u k => ⟨nibbleOf_lowercase u k, nibbleOf_uppercase u k⟩,
    fun u _ hdecimal hlower hupper => nibbleOf_eq_none hdecimal hlower hupper u, hexDigit_range⟩

/-! HEX_ENCODE (R230) -/

/-- Character k is the digit of bits 31−4k to 28−4k. -/
theorem hexEncode_getElem? (v : Word) {k : Nat} (hk : k < 8) :
    (hexEncode v)[k]? = some (hexDigit (v.extractLsb' (28 - 4 * k) 4)) := by
  simp [hexEncode, hk]

/-- The digit of R96 as a number above '0' or above 'a'. -/
theorem hexDigit_eq_ofNat (x : Nibble) :
    hexDigit x = if x.toNat ≤ 9 then BitVec.ofNat 8 (0x30 + x.toNat)
      else BitVec.ofNat 8 (0x61 + (x.toNat - 10)) := by
  revert x; decide

theorem answers_hexEncode {s : State} (hc : s.configOk = true) (v : Word) :
    Answers (.hexEncode v) s (.hexString (hexEncode v)) :=
  answers_of_pureOp (o := fun _ => .hexString (hexEncode v)) (fun _ => rfl) hc

/-- Settles O37: the string of R230, with each digit as a number. -/
theorem hexEncodeWritesEightDigits : Obligations.HexEncodeWritesEightDigits := by
  intro s v hc
  refine ⟨hexEncode v, answers_hexEncode hc v, hexEncode_length v, fun k hk => ?_⟩
  rw [hexEncode_getElem? v hk, hexDigit_eq_ofNat]

/-! The loop of HEX_DECODE (R232) -/

/-- The loop fails exactly for a character that is not accepted. -/
theorem hexAccumulate_eq_none_iff {u : Bool} {v : Word} {str : ByteString} :
    hexAccumulate u v str = none ↔ ∃ ch ∈ str, nibbleOf u ch = none := by
  induction str generalizing v with
  | nil => simp [hexAccumulate]
  | cons ch rest ih =>
    cases hch : nibbleOf u ch with
    | none => simp [hexAccumulate, hch]
    | some x => simp [hexAccumulate, hch, ih]

/-- A loop that ends with a value accepted its first character and went on from its digit. -/
theorem hexAccumulate_cons_eq_some {u : Bool} {v w : Word} {ch : Byte} {rest : ByteString}
    (h : hexAccumulate u v (ch :: rest) = some w) :
    ∃ x, nibbleOf u ch = some x ∧ hexAccumulate u (v <<< 4 ||| x.setWidth 32) rest = some w := by
  cases hch : nibbleOf u ch with
  | none => simp [hexAccumulate, hch] at h
  | some x => exact ⟨x, rfl, by simpa [hexAccumulate, hch] using h⟩

/-- A round of the loop puts the new digit into the lowest nibble. -/
theorem extractLsb'_low_shift_or (v : Word) (x : Nibble) :
    (v <<< 4 ||| x.setWidth 32).extractLsb' 0 4 = x := by
  ext j hj
  simp [hj, show j < 32 by omega]

/-- A round of the loop moves every nibble up by one place. -/
theorem extractLsb'_high_shift_or (v : Word) (x : Nibble) {start : Nat} (h : start + 8 ≤ 32) :
    (v <<< 4 ||| x.setWidth 32).extractLsb' (start + 4) 4 = v.extractLsb' start 4 := by
  ext j hj
  simp [show start + 4 + j < 32 by omega, show start + 4 + j - 4 = start + j by omega,
    show ¬(start + 4 + j < 4) by omega, BitVec.getLsbD_of_ge x (start + 4 + j) (by omega),
    BitVec.getLsbD_eq_getElem (show start + j < 32 by omega)]

/-- What the loop started with stands above the digits it read. -/
theorem extractLsb'_above_of_hexAccumulate {u : Bool} {v w : Word} {str : ByteString}
    (h : hexAccumulate u v str = some w) {start : Nat} (hfits : start + 4 * str.length + 4 ≤ 32) :
    w.extractLsb' (start + 4 * str.length) 4 = v.extractLsb' start 4 := by
  induction str generalizing v start with
  | nil =>
    cases h
    rfl
  | cons ch rest ih =>
    rw [List.length_cons] at hfits ⊢
    obtain ⟨x, -, hrest⟩ := hexAccumulate_cons_eq_some h
    calc w.extractLsb' (start + 4 * (rest.length + 1)) 4
        = w.extractLsb' (start + 4 + 4 * rest.length) 4 := by congr 1; omega
      _ = (v <<< 4 ||| x.setWidth 32).extractLsb' (start + 4) 4 := ih hrest (by omega)
      _ = v.extractLsb' start 4 := extractLsb'_high_shift_or v x (by omega)

/-- The loop leaves the digit of each character in its nibble, the last character's lowest. -/
theorem nibbleOf_getElem?_of_hexAccumulate {u : Bool} {v w : Word} {str : ByteString}
    (h : hexAccumulate u v str = some w) (hfits : str.length ≤ 8) {k : Nat} (hk : k < str.length) :
    (str[k]?).bind (nibbleOf u) = some (w.extractLsb' (4 * (str.length - 1 - k)) 4) := by
  induction str generalizing v k with
  | nil => cases hk
  | cons ch rest ih =>
    rw [List.length_cons] at hfits hk
    obtain ⟨x, hch, hrest⟩ := hexAccumulate_cons_eq_some h
    cases k with
    | zero =>
      have hlow := extractLsb'_above_of_hexAccumulate hrest (start := 0) (by omega)
      rw [extractLsb'_low_shift_or, Nat.zero_add] at hlow
      simp [hch, hlow]
    | succ k =>
      have hdigit := ih hrest (by omega) (k := k) (by omega)
      rw [List.getElem?_cons_succ, hdigit, List.length_cons,
        show rest.length + 1 - 1 - (k + 1) = rest.length - 1 - k by omega]

/-! HEX_DECODE, position by position (R232, R236) -/

/-- HEX_DECODE fails exactly where a position of the first eight has no character or one that is not
accepted. -/
theorem hexDecode_eq_none_iff {u : Bool} {str : ByteString} :
    hexDecode u str = none ↔ ∃ k, k ≤ 7 ∧ (str[k]?).bind (nibbleOf u) = none := by
  unfold hexDecode
  split_ifs with hshort
  · exact iff_of_true rfl ⟨7, le_rfl, by rw [List.getElem?_eq_none (by omega), Option.bind_none]⟩
  · rw [hexAccumulate_eq_none_iff]
    constructor
    · rintro ⟨ch, hmem, hch⟩
      obtain ⟨k, hk, rfl⟩ := List.mem_take_iff_getElem.mp hmem
      exact ⟨k, by omega, by rw [List.getElem?_eq_getElem (by omega), Option.bind_some, hch]⟩
    · rintro ⟨k, hk, hch⟩
      have hlt : k < str.length := by omega
      rw [List.getElem?_eq_getElem hlt, Option.bind_some] at hch
      exact ⟨str[k], List.mem_take_iff_getElem.mpr ⟨k, by omega, rfl⟩, hch⟩

/-- Character k of a string that decodes is a digit, of bits 31−4k to 28−4k of the value. -/
theorem nibbleOf_getElem?_of_hexDecode {u : Bool} {str : ByteString} {v : Word}
    (h : hexDecode u str = some v) {k : Nat} (hk : k ≤ 7) :
    (str[k]?).bind (nibbleOf u) = some (v.extractLsb' (28 - 4 * k) 4) := by
  unfold hexDecode at h
  split_ifs at h with hshort
  have hlen : (str.take 8).length = 8 := by rw [List.length_take]; omega
  have hdigit := nibbleOf_getElem?_of_hexAccumulate h hlen.le (k := k) (by omega)
  rwa [List.getElem?_take_of_lt (by omega), hlen, show 4 * (8 - 1 - k) = 28 - 4 * k by omega] at hdigit

/-- A value is its eight nibbles. -/
theorem eq_of_extractLsb'_nibbles {v w : Word}
    (h : ∀ k, k ≤ 7 → v.extractLsb' (28 - 4 * k) 4 = w.extractLsb' (28 - 4 * k) 4) : v = w := by
  apply BitVec.eq_of_getLsbD_eq
  intro j hj
  have hbit := congrArg (·.getLsbD (j % 4)) (h (7 - j / 4) (by omega))
  have hpos : 28 - 4 * (7 - j / 4) + j % 4 = j := by omega
  simpa [hpos, Nat.mod_lt] using hbit

/-- HEX_DECODE answers the one value whose nibbles are the digits of the first eight characters. -/
theorem hexDecode_eq_some_iff {u : Bool} {str : ByteString} {v : Word} :
    hexDecode u str = some v ↔
      ∀ k, k ≤ 7 → (str[k]?).bind (nibbleOf u) = some (v.extractLsb' (28 - 4 * k) 4) := by
  refine ⟨fun h k hk => nibbleOf_getElem?_of_hexDecode h hk, fun hdigits => ?_⟩
  cases h : hexDecode u str with
  | none =>
    obtain ⟨k, hk, hbad⟩ := hexDecode_eq_none_iff.mp h
    cases hbad.symm.trans (hdigits k hk)
  | some w =>
    have hvw : w = v := eq_of_extractLsb'_nibbles fun k hk =>
      Option.some.inj ((nibbleOf_getElem?_of_hexDecode h hk).symm.trans (hdigits k hk))
    rw [hvw]

theorem answers_hexDecode_of_none {s : State} (hc : s.configOk = true) {str : ByteString}
    (h : hexDecode s.cfg.hexUpper str = none) : Answers (.hexDecode str) s (.hexValue false 0) := by
  rw [Answers, exec_hexDecode, execHexDecode, h]
  exact pureOp_of_configOk hc _

theorem answers_hexDecode_of_some {s : State} (hc : s.configOk = true) {str : ByteString} {v : Word}
    (h : hexDecode s.cfg.hexUpper str = some v) : Answers (.hexDecode str) s (.hexValue true v) := by
  rw [Answers, exec_hexDecode, execHexDecode, h]
  exact pureOp_of_configOk hc _

/-- Settles O38: a string fails at a position of the first eight, and one without such a position has
the value whose nibbles are its digits. -/
theorem hexDecodeReadsTheFirstEight : Obligations.HexDecodeReadsTheFirstEight := by
  intro s str hc
  refine ⟨fun hshort => ?_, fun k ch hk hget hbad => ?_, fun hlen hgood => ?_⟩
  · exact answers_hexDecode_of_none hc (if_pos hshort)
  · exact answers_hexDecode_of_none hc (hexDecode_eq_none_iff.mpr ⟨k, hk, by simp [hget, hbad]⟩)
  · cases h : hexDecode s.cfg.hexUpper str with
    | none =>
      obtain ⟨k, hk, hbad⟩ := hexDecode_eq_none_iff.mp h
      have hget : str[k]? = some str[k] := List.getElem?_eq_getElem (by omega)
      rw [hget, Option.bind_some] at hbad
      exact absurd hbad (hgood k _ hk hget)
    | some v =>
      exact ⟨v, answers_hexDecode_of_some hc h, fun k hk => nibbleOf_getElem?_of_hexDecode h hk⟩

/-! The round trip (R235) -/

/-- The eight characters of a value decode to it, whatever follows them. -/
theorem hexDecode_hexEncode_append (u : Bool) (v : Word) (rest : ByteString) :
    hexDecode u (hexEncode v ++ rest) = some v := by
  refine hexDecode_eq_some_iff.mpr fun k hk => ?_
  rw [List.getElem?_append_left (by rw [hexEncode_length]; omega), hexEncode_getElem? v (by omega),
    Option.bind_some, nibbleOf_hexDigit]

/-- Settles O40: the characters of R230 are digits of the value's own nibbles under either setting. -/
theorem hexRoundTripsEveryValue : Obligations.HexRoundTripsEveryValue := by
  intro s v hc
  have hdecode := hexDecode_hexEncode_append s.cfg.hexUpper v []
  rw [List.append_nil] at hdecode
  exact ⟨hexEncode v, answers_hexEncode hc v, answers_hexDecode_of_some hc hdecode⟩

end Sys2Proof.Machine
end

section
/-!
PROOF. The serializer (43_wire_protocol.md R250 to R254): what each BUILD row answers, the bytes of its
datagram, and the lengths that follow from the prefixes' lengths.
-/

namespace Sys2Proof.Machine

/-! Legal configurations (10_state.md R40) -/

theorem configValid_iff (c : Config) :
    configValid c = true ↔ c.app ≠ [] ∧ 0x00 ∉ c.app ∧ (c.eventPad = 3 ∨ c.eventPad = 4) := by
  simp [configValid, and_assoc, List.forall_mem_ne']

theorem State.eventPad_of_configOk {s : State} (hc : s.configOk = true) :
    s.cfg.eventPad = 3 ∨ s.cfg.eventPad = 4 := by
  obtain ⟨hvalid, -⟩ := Bool.and_eq_true_iff.mp hc
  obtain ⟨-, -, hpad⟩ := (configValid_iff s.cfg).mp hvalid
  exact hpad

/-! The answers of the BUILD rows -/

theorem answers_buildHello {s : State} (hc : s.configOk = true) (port : BitVec 16)
    (name : ByteString) : Answers (.buildHello port name) s (.hello (buildHello s.cfg port name)) :=
  answers_of_pureOp (o := fun c => .hello (buildHello c port name)) (fun _ => rfl) hc

theorem answers_buildEvent {s : State} (hc : s.configOk = true) (p : Packet) :
    Answers (.buildEvent p) s (.datagram (buildEvent s.cfg p)) :=
  answers_of_pureOp (o := fun c => .datagram (buildEvent c p)) (fun _ => rfl) hc

theorem answers_buildGoodbye {s : State} (hc : s.configOk = true) :
    Answers .buildGoodbye s (.datagram (buildGoodbye s.cfg)) :=
  answers_of_pureOp (o := fun c => .datagram (buildGoodbye c)) (fun _ => rfl) hc

/-- The result of a completed operation without state stands on the output port. -/
theorem eq_of_pureOp_out {s t : State} {o o' : Output} (h : pureOp s o = .next t)
    (hout : t.out = some o') : o = o' := by
  obtain ⟨-, rfl⟩ := pureOp_next h
  exact Option.some.inj hout

/-! BUILD_HELLO (R250, R251) -/

/-- Cause SC1: a 0x00 byte in the name, or a set limit below its length. -/
theorem helloNameBad_iff (c : Config) (name : ByteString) :
    helloNameBad c name = true ↔ 0x00 ∈ name ∨ ∃ m, c.nameMax = some m ∧ m < name.length := by
  cases hmax : c.nameMax with
  | none => simp [helloNameBad, hmax]
  | some m => simp [helloNameBad, hmax]

theorem buildHello_of_bad {c : Config} {name : ByteString} (h : helloNameBad c name = true)
    (port : BitVec 16) : buildHello c port name = none := if_pos h

theorem buildHello_of_good {c : Config} {name : ByteString} (h : ¬helloNameBad c name = true)
    (port : BitVec 16) :
    buildHello c port name = some (helloHeader c.app ++ portField port ++ nameField name) := if_neg h

/-- A hello that is built is the header, the port field and the name field. -/
theorem eq_of_buildHello {c : Config} {port : BitVec 16} {name d : ByteString}
    (h : buildHello c port name = some d) :
    d = helloHeader c.app ++ portField port ++ nameField name := by
  by_cases hbad : helloNameBad c name = true
  · cases (buildHello_of_bad hbad port).symm.trans h
  · exact Option.some.inj (h.symm.trans (buildHello_of_good hbad port))

/-- The port's two bytes come after two bytes of the zero extension. -/
theorem portField_eq (port : BitVec 16) :
    portField port = [0x00, 0x00, port.extractLsb' 8 8, port.extractLsb' 0 8] := by
  have hhigh (start : Nat) (h : 16 ≤ start) : (port.setWidth 32).extractLsb' start 8 = 0x00 := by
    ext j hj
    simp [BitVec.getLsbD_of_ge port (start + j) (by omega)]
  have hlow (start : Nat) (h : start ≤ 8) :
      (port.setWidth 32).extractLsb' start 8 = port.extractLsb' start 8 := by
    ext j hj
    simp [show start + j < 32 by omega]
  simp only [portField, be32, hhigh 24 (by omega), hhigh 16 le_rfl, hlow 8 le_rfl, hlow 0 (by omega)]

theorem helloHeader_eq (app : ByteString) :
    helloHeader app =
      [0x2F] ++ app ++ [0x2F, 0x68, 0x65, 0x6C, 0x6C, 0x6F, 0x00, 0x2C, 0x69, 0x73, 0x00] := by
  simp [helloHeader, appPrefix]

/-- Settles O41: the two branches of R250, with the fields as bytes. -/
theorem buildHelloWritesTheDatagram : Obligations.BuildHelloWritesTheDatagram := by
  intro s port name hc
  have answer := answers_buildHello hc port name
  refine ⟨fun hbad => ?_, fun hnul hmax => ?_⟩
  · rwa [buildHello_of_bad ((helloNameBad_iff s.cfg name).mpr hbad)] at answer
  · have hgood : ¬helloNameBad s.cfg name = true := by
      rw [helloNameBad_iff]
      rintro (hmem | ⟨m, hm, hlt⟩)
      · exact hnul hmem
      · exact absurd (hmax m hm) (Nat.not_le.mpr hlt)
    rw [buildHello_of_good hgood, helloHeader_eq, portField_eq, nameField, nameFieldLength,
      ← List.append_assoc] at answer
    exact answer

/-! BUILD_EVENT and BUILD_GOODBYE (R252, R253) -/

theorem eventPrefix_eq (app : ByteString) :
    eventPrefix app =
      [0x2F] ++ app ++ [0x2F, 0x65, 0x76, 0x65, 0x6E, 0x74, 0x00, 0x2C, 0x73, 0x00, 0x00] := by
  simp [eventPrefix, appPrefix]

theorem byePrefix_eq (app : ByteString) :
    byePrefix app = [0x2F] ++ app ++ [0x2F, 0x62, 0x79, 0x65, 0x00, 0x00, 0x00] := by
  simp [byePrefix, appPrefix]

/-- Settles O42: the prefixes as bytes, and the string of HEX_ENCODE between the event's. -/
theorem buildEventAndGoodbyeWriteTheDatagrams :
    Obligations.BuildEventAndGoodbyeWriteTheDatagrams := by
  intro s p hc
  have event := answers_buildEvent hc p
  have goodbye := answers_buildGoodbye hc
  rw [buildEvent, eventPrefix_eq] at event
  rw [buildGoodbye, byePrefix_eq] at goodbye
  exact ⟨⟨hexEncode p, answers_hexEncode hc p, event⟩, goodbye⟩

/-! The lengths (R254) -/

theorem buildHello_length {c : Config} {port : BitVec 16} {name d : ByteString}
    (h : buildHello c port name = some d) :
    d.length = c.app.length + 16 + 4 * (name.length / 4) + 4 := by
  rw [eq_of_buildHello h]
  simp only [List.length_append, helloHeader_length, portField_length, nameField_length,
    nameFieldLength]
  omega

theorem buildEvent_length (c : Config) (p : Packet) :
    (buildEvent c p).length = c.app.length + 20 + c.eventPad.toNat := by
  simp only [buildEvent, List.length_append, eventPrefix_length, hexEncode_length,
    List.length_replicate]

theorem buildGoodbye_length (c : Config) : (buildGoodbye c).length = c.app.length + 8 :=
  byePrefix_length c.app

/-- Settles O43: an answered datagram is the built one, and only a legal configuration answers. -/
theorem datagramsHaveTheStatedLengths : Obligations.DatagramsHaveTheStatedLengths := by
  intro s t
  refine ⟨fun port name d h hout => ?_, fun p d h hout => ?_, fun d h hout => ?_⟩
  · exact buildHello_length (Output.hello.inj (eq_of_pureOp_out h hout))
  · obtain ⟨hc, -⟩ := pureOp_next h
    obtain rfl := Output.datagram.inj (eq_of_pureOp_out h hout)
    exact ⟨buildEvent_length s.cfg p, State.eventPad_of_configOk hc⟩
  · obtain rfl := Output.datagram.inj (eq_of_pureOp_out h hout)
    exact buildGoodbye_length s.cfg

end Sys2Proof.Machine
end

section
/-!
PROOF. The parser (43_wire_protocol.md R260 to R268): MATCH is the relation `<+:` of lists, PARSE of a
datagram is decided by the header it is built from, and the first L + 20 bytes are all it reads.
-/

namespace Sys2Proof.Machine

/-! MATCH (R261) -/

theorem matchPrefix_iff_prefix {d x : ByteString} : matchPrefix d x = true ↔ x <+: d := by
  constructor
  · exact fun h => ⟨_, append_drop_of_matchPrefix h⟩
  · rintro ⟨rest, rfl⟩
    exact matchPrefix_append x rest

/-- Settles O44: MATCH is `<+:`, and the library says that byte by byte. -/
theorem prefixMatchIsByteForByte : Obligations.PrefixMatchIsByteForByte := by
  intro d x
  rw [matchPrefix_iff_prefix]
  refine ⟨fun h => ⟨h.length_le, fun k hk => ?_⟩, fun ⟨_, hbytes⟩ => ?_⟩
  · rw [List.prefix_iff_getElem?.mp h k hk, List.getElem?_eq_getElem hk]
  · refine List.prefix_iff_getElem?.mpr fun k hk => ?_
    rw [hbytes k hk, List.getElem?_eq_getElem hk]

theorem matchPrefix_eq_false_of_ne_append {d x : ByteString} (h : ∀ rest, d ≠ x ++ rest) :
    matchPrefix d x = false :=
  Bool.eq_false_of_not_eq_true fun hmatch => h _ (append_drop_of_matchPrefix hmatch).symm

/-- MATCH reads no byte beyond the header's length. -/
theorem matchPrefix_take {x : ByteString} {n : Nat} (hn : x.length ≤ n) (d : ByteString) :
    matchPrefix (d.take n) x = matchPrefix d x := by
  rw [Bool.eq_iff_iff, matchPrefix_iff_prefix, matchPrefix_iff_prefix, List.prefix_take_iff]
  exact and_iff_left hn

/-! The payload of an event datagram (R262) -/

section
variable {u : Bool} {payload : ByteString}

theorem parseEventPayload_of_short (h : payload.length < 8) :
    parseEventPayload u payload = .ignore := if_pos h

theorem parseEventPayload_of_none (hlen : 8 ≤ payload.length)
    (h : hexDecode u (payload.take 8) = none) : parseEventPayload u payload = .ignore := by
  rw [parseEventPayload, if_neg (Nat.not_lt.mpr hlen), h]

theorem parseEventPayload_of_some {v : Word} (hlen : 8 ≤ payload.length)
    (h : hexDecode u (payload.take 8) = some v) : parseEventPayload u payload = .event v := by
  rw [parseEventPayload, if_neg (Nat.not_lt.mpr hlen), h]

end

/-- Settles O46: the three cases of the payload, and two rows that answer one result. -/
theorem parseRowsAnswer : Obligations.ParseRowsAnswer := by
  intro s payload rest d hc
  have event {r : ParseResult} (hr : parseEventPayload s.cfg.hexUpper payload = r) :
      Answers (.parseEvent payload) s (.parsed r) := by
    subst hr
    exact pureOp_of_configOk hc _
  exact ⟨fun hshort => event (parseEventPayload_of_short hshort),
    fun hlen h => event (parseEventPayload_of_none hlen h),
    fun v hlen h => event (parseEventPayload_of_some hlen h),
    pureOp_of_configOk hc _, pureOp_of_configOk hc _⟩

/-! PARSE, by the header (R260) -/

/-- An event datagram is parsed by its payload. -/
theorem parse_eventPrefix_append (c : Config) (payload : ByteString) :
    parse c (eventPrefix c.app ++ payload) = parseEventPayload c.hexUpper payload := by
  have hdrop : (eventPrefix c.app ++ payload).drop (c.app.length + 12) = payload := by
    rw [← eventPrefix_length, List.drop_left]
  have hshort : (eventPrefix c.app ++ payload).length < c.app.length + 12 + 8 ↔ payload.length < 8 := by
    rw [List.length_append, eventPrefix_length, Nat.add_lt_add_iff_left]
  simp only [parse, parseEventPayload, matchPrefix_append, if_true, hdrop, hshort]

/-- Eight characters after the event header decide the result; what follows them does not. -/
theorem parse_eventPrefix_append_eight (c : Config) {str : ByteString} (hlen : str.length = 8)
    (rest : ByteString) :
    parse c (eventPrefix c.app ++ str ++ rest) =
      (hexDecode c.hexUpper str).elim .ignore .event := by
  have htake : (str ++ rest).take 8 = str := List.take_left' hlen
  have hlong : 8 ≤ (str ++ rest).length := by rw [List.length_append]; omega
  rw [List.append_assoc, parse_eventPrefix_append]
  cases h : hexDecode c.hexUpper str with
  | none => exact parseEventPayload_of_none hlong (htake.symm ▸ h)
  | some v => exact parseEventPayload_of_some hlong (htake.symm ▸ h)

theorem parse_byePrefix_append (c : Config) (rest : ByteString) :
    parse c (byePrefix c.app ++ rest) = .goodbye := by
  have hbye : matchPrefix (byePrefix c.app ++ rest) (byePrefix c.app) = true := matchPrefix_append _ _
  simp [parse, matchPrefix_eventPrefix_of_byePrefix hbye]

theorem parse_of_no_prefix {c : Config} {d : ByteString}
    (hevent : matchPrefix d (eventPrefix c.app) = false)
    (hbye : matchPrefix d (byePrefix c.app) = false) : parse c d = .ignore := by
  simp [parse, hevent, hbye]

/-- The decoded PARSE row answers what R260 says of the whole datagram. -/
theorem answers_parse {s : State} {d : ByteString} {r : ParseResult} (hc : s.configOk = true)
    (h : parse s.cfg d = r) : Answers (decode s.cfg (.parse d)) s (.parsed r) :=
  h ▸ (exec_decodeDatagram d s).trans (pureOp_of_configOk hc _)

/-- Settles O47: a datagram is the event header and a payload, the goodbye header and a rest,
or neither. -/
theorem parseClassifiesEveryDatagram : Obligations.ParseClassifiesEveryDatagram := by
  intro s d hc
  refine ⟨answers_parse hc rfl, ?_, ?_, ?_, fun hevent hbye => ?_⟩
  · rintro rest rfl hshort
    rw [parse_eventPrefix_append, parseEventPayload_of_short hshort]
  · rintro str rest rfl hlen
    rw [parse_eventPrefix_append_eight s.cfg hlen]
    cases hexDecode s.cfg.hexUpper str with
    | none => rfl
    | some v => rfl
  · rintro rest rfl
    exact parse_byePrefix_append s.cfg rest
  · exact parse_of_no_prefix (matchPrefix_eq_false_of_ne_append hevent)
      (matchPrefix_eq_false_of_ne_append hbye)

/-! The bytes PARSE reads (R265) -/

/-- PARSE of a datagram is PARSE of its first L + 20 bytes. -/
theorem parse_take (c : Config) (d : ByteString) :
    parse c (d.take (c.app.length + 20)) = parse c d := by
  have hevent := matchPrefix_take (x := eventPrefix c.app) (n := c.app.length + 20) (by simp) d
  have hbye := matchPrefix_take (x := byePrefix c.app) (n := c.app.length + 20) (by simp) d
  have hshort : (d.take (c.app.length + 20)).length < c.app.length + 12 + 8 ↔
      d.length < c.app.length + 12 + 8 := by
    rw [List.length_take]; omega
  have hpayload : ((d.take (c.app.length + 20)).drop (c.app.length + 12)).take 8 =
      (d.drop (c.app.length + 12)).take 8 := by
    rw [List.drop_take, List.take_take]
    congr 1; omega
  simp only [parse, hevent, hbye, hshort, hpayload]

/-- The outcome of a PARSE depends on the result of R260 alone, under any configuration. -/
theorem exec_parse_congr {s : State} {d e : ByteString} (h : parse s.cfg d = parse s.cfg e) :
    exec (decode s.cfg (.parse d)) s = exec (decode s.cfg (.parse e)) s := by
  simp only [decode, exec_decodeDatagram, h]

/-- Settles O48: both pairs of datagrams have one result, by their first bytes and by their header. -/
theorem parseDoesNotReadTheTrailer : Obligations.ParseDoesNotReadTheTrailer := by
  intro s d e
  refine ⟨fun htake => exec_parse_congr ?_, exec_parse_congr ?_⟩
  · rw [← parse_take, htake, parse_take]
  · rw [parse_byePrefix_append, parse_byePrefix_append]

/-! Built datagrams (R267, R268) -/

/-- A built event datagram parses as its packet: the padding is the rest after eight characters. -/
theorem parse_buildEvent (c : Config) (p : Packet) : parse c (buildEvent c p) = .event p := by
  have hdecode := hexDecode_hexEncode_append c.hexUpper p []
  rw [List.append_nil] at hdecode
  rw [buildEvent, parse_eventPrefix_append_eight c (hexEncode_length p), hdecode, Option.elim_some]

theorem parse_buildGoodbye (c : Config) : parse c (buildGoodbye c) = .goodbye := by
  rw [buildGoodbye, ← List.append_nil (byePrefix c.app), parse_byePrefix_append]

/-- A datagram with the hello header matches neither of the two that PARSE tests (R100, D24). -/
theorem parse_buildHello {c : Config} {port : BitVec 16} {name d : ByteString}
    (h : buildHello c port name = some d) : parse c d = .ignore := by
  obtain ⟨-, -, -, -, hdisjoint⟩ := prefixesAreUnambiguous c.app d
  obtain ⟨hevent, hbye⟩ := hdisjoint (by
    rw [eq_of_buildHello h, List.append_assoc]
    exact matchPrefix_append _ _)
  exact parse_of_no_prefix hevent hbye

/-- Settles O49: the datagram of BUILD_EVENT, parsed. -/
theorem eventDatagramRoundTrips : Obligations.EventDatagramRoundTrips := fun s p hc =>
  ⟨buildEvent s.cfg p, answers_buildEvent hc p, answers_parse hc (parse_buildEvent s.cfg p)⟩

/-- Settles O50: the datagram of BUILD_GOODBYE, and every one BUILD_HELLO answers. -/
theorem goodbyeAndHelloDatagramsParse : Obligations.GoodbyeAndHelloDatagramsParse := by
  intro s hc
  refine ⟨⟨buildGoodbye s.cfg, answers_buildGoodbye hc,
    answers_parse hc (parse_buildGoodbye s.cfg)⟩, fun port name d h => ?_⟩
  have hbuilt : buildHello s.cfg port name = some d := Output.hello.inj (eq_of_pureOp_out h rfl)
  exact answers_parse hc (parse_buildHello hbuilt)

end Sys2Proof.Machine
end

section
/-!
PROOF. Every transaction completes (60_exceptions.md R300): from the invariant none of the reasons of
`exec_refused` is left, and the run of a list follows transaction by transaction.
-/

namespace Sys2Proof.Machine

/-- An instruction names only a decoder that the engine holds. -/
theorem lt_of_instanceOk {x : Instr} {n i : Nat} (h : x.instanceOk n = true)
    (hi : x.decoderIndex = some i ∨ x = .reset (.one i)) : i < n := by
  obtain hi | rfl := hi
  · rw [instanceOk_of_decoderIndex hi] at h
    exact of_decide_eq_true h
  · exact of_decide_eq_true h

/-- Under the invariant an instruction that names a held decoder is not refused. -/
theorem not_refusedFor_of_inv {x : Instr} {s : State} (hs : s.Inv)
    (hx : x.instanceOk s.decoders.length = true) (e : Refusal) : ¬RefusedFor x s e := by
  obtain ⟨hok, hdec⟩ := hs
  intro h
  cases h with
  | config hc => cases hok.symm.trans hc
  | notHeld i hc hi hd =>
    exact absurd (lt_of_instanceOk hx hi) (Nat.not_lt.mpr (List.getElem?_eq_none_iff.mp hd))
  | decoder i d hc hi hd hl =>
    obtain ⟨hlegal, -⟩ := hdec d (List.mem_of_getElem? hd)
    cases hlegal.symm.trans hl

/-- Progress: there is no fault, and a refusal would have a reason. -/
theorem exists_transact_next_of_inv {s : State} {r : Request} (hs : s.Inv)
    (hr : r.namesInstance s.decoders.length) : ∃ t, transact s r = .next t := by
  have hx := instanceOk_decode s.cfg hr
  cases h : transact s r with
  | next t => exact ⟨t, rfl⟩
  | fault f => exact nomatch f
  | refused e =>
    exact absurd (exec_refused h) (not_refusedFor_of_inv (s := { s with requests := [r] }) hs hx e)

/-- Preservation, for one transaction presented alone. -/
theorem inv_of_transact {s t : State} {r : Request} (hs : s.Inv) (h : transact s r = .next t) :
    t.Inv :=
  stepKeepsTheInvariant { s with requests := [r] } t hs h

/-- Settles O6: progress and preservation along the list; no transaction changes how many decoders
there are. -/
theorem everyPresentedTransactionCompletes : Obligations.EveryPresentedTransactionCompletes := by
  intro s rs hs hrs
  induction rs generalizing s with
  | nil => exact ⟨s, [], rfl, rfl, hs⟩
  | cons r rs ih =>
    obtain ⟨hr, hrest⟩ := List.forall_mem_cons.mp hrs
    obtain ⟨t, ht⟩ := exists_transact_next_of_inv hs hr
    obtain ⟨o, ho, -⟩ := transact_out ht
    have hlen : t.decoders.length = s.decoders.length := (exec_next ht).decoders_length
    obtain ⟨u, os, hu, hos, hinv⟩ := ih t (inv_of_transact hs ht) (hlen ▸ hrest)
    refine ⟨u, o :: os, ?_, congrArg (· + 1) hos, hinv⟩
    rw [present_cons ht, hu, ho]
    rfl

end Sys2Proof.Machine
end

section
/-!
PROOF. The host's two paths (60_exceptions.md R321, R322): `send` is the dispatch of R141 over the bytes
with one event datagram per packet, and `relay` acts as PARSE answers.
-/

namespace Sys2Proof.Machine

/-- A transaction whose row only answers takes the host's one entry and shows its result. -/
theorem transact_of_answers {s : State} {r : Request} {o : Output}
    (h : Answers (decode s.cfg r) { s with requests := [r] } o) :
    transact s r = .next { s with requests := [], out := some o } := h

/-! The local-to-network path (R321) -/

/-- BUILD_EVENT of a configured engine gives the datagram and keeps configuration and decoders. -/
theorem eventDatagram_of_configOk {s : State} (hc : s.configOk = true) (p : Packet) :
    ∃ t, eventDatagram s p = some (t, buildEvent s.cfg p) ∧ t.cfg = s.cfg ∧
      t.decoders = s.decoders := by
  have hrun : transact s (.buildEvent p) = _ :=
    transact_of_answers (answers_buildEvent (s := { s with requests := [.buildEvent p] }) hc p)
  simp only [eventDatagram, hrun]
  exact ⟨_, rfl, rfl, rfl⟩

theorem sendByte_of_packet {s t : State} {i : Nat} {b : Byte} {p : Packet}
    (hnext : transact s (.decode i b) = .next t) (hout : t.out = some (.packet (some p))) :
    sendByte s i b = (eventDatagram t p).map (fun q => (q.1, [q.2])) := by
  simp [sendByte, hnext, hout]

theorem sendByte_of_no_packet {s t : State} {i : Nat} {b : Byte}
    (hnext : transact s (.decode i b) = .next t) (hout : t.out = some (.packet none)) :
    sendByte s i b = some (t, []) := by
  simp [sendByte, hnext, hout]

/-- One byte of `send`: the packet of its DECODE, if any, as an event datagram. -/
theorem sendByte_of_holds {s : State} {i : Nat} {d : Decoder} (h : s.Holds i d) (b : Byte) :
    ∃ t, sendByte s i b =
        some (t, ((decodeByte s.cfg.cable b d).2.toList).map (buildEvent s.cfg)) ∧
      t.cfg = s.cfg ∧ t.Holds i (decodeByte s.cfg.cable b d).1 := by
  obtain ⟨t, hnext, hout, hcfg, -, ht⟩ := transact_decode h b
  cases hp : (decodeByte s.cfg.cable b d).2 with
  | none => exact ⟨t, sendByte_of_no_packet hnext (hp ▸ hout), hcfg, ht⟩
  | some p =>
    have ⟨hc, _, _⟩ := ht
    obtain ⟨u, hu, hcfg', hdec⟩ := eventDatagram_of_configOk hc p
    refine ⟨u, ?_, hcfg'.trans hcfg, ht.congr hcfg'.symm (by rw [hdec])⟩
    rw [sendByte_of_packet hnext (hp ▸ hout), hu, hcfg]
    rfl

/-- `send` on a decoder that holds legal registers: one datagram per packet of `decodeBytes`. -/
theorem send_of_holds {s : State} {i : Nat} {d : Decoder} (h : s.Holds i d) (bs : ByteString) :
    ∃ t, send s i bs = some (t, (decodeBytes s.cfg.cable d bs).2.map (buildEvent s.cfg)) := by
  induction bs generalizing s d with
  | nil => exact ⟨s, rfl⟩
  | cons b bs ih =>
    obtain ⟨t, hb, hcfg, ht⟩ := sendByte_of_holds h b
    obtain ⟨u, hu⟩ := ih ht
    refine ⟨u, ?_⟩
    rw [hcfg] at hu
    simp [send, hb, hu, decodeBytes_cons]

/-! The network-to-local path (R322) -/

/-- PARSE of a configured engine shows the result of R260 and keeps configuration and decoders. -/
theorem transact_parse {s : State} (hc : s.configOk = true) (d : ByteString) :
    ∃ t, transact s (.parse d) = .next t ∧ t.out = some (.parsed (parse s.cfg d)) ∧
      t.configOk = true ∧ t.decoders = s.decoders :=
  ⟨_, transact_of_answers (answers_parse (s := { s with requests := [.parse d] }) hc rfl), rfl, hc,
    rfl⟩

/-- The engine that `expandBytes` leaves is that of the EXPAND transaction. -/
theorem transact_of_expandBytes {s t : State} {p : Packet} {bs : ByteString}
    (h : expandBytes s p = some (t, bs)) : transact s (.expand p) = .next t := by
  unfold expandBytes at h
  split at h
  next u hu =>
    split at h
    · cases h
      exact hu
    · cases h
  next => cases h

/-- A datagram that parses as an event makes the host submit the bytes of its packet. -/
theorem relay_of_event {s : State} {d : ByteString} {p : Packet} (hc : s.configOk = true)
    (hp : parse s.cfg d = .event p) (hne : packetBytes p ≠ []) :
    ∃ u, relay s d = some (u, .submit (packetBytes p)) ∧ u.decoders = s.decoders := by
  obtain ⟨t, hnext, hout, hct, hdec⟩ := transact_parse hc d
  obtain ⟨u, hu⟩ := expandBytes_of_configOk hct p
  refine ⟨u, ?_, (transact_decoders_eq rfl (transact_of_expandBytes hu)).trans hdec⟩
  simp [relay, hnext, hout, hp, hu, hne]

/-! From one engine to another (R220, R267) -/

/-- What BUILD_EVENT writes and PARSE reads of the configuration is the application name; the padding
and the case of the hex characters may differ. -/
theorem parse_buildEvent_of_app_eq {c c' : Config} (happ : c'.app = c.app) (p : Packet) :
    parse c' (buildEvent c p) = .event p := by
  have hdecode := hexDecode_hexEncode_append c'.hexUpper p []
  rw [List.append_nil] at hdecode
  rw [buildEvent, ← happ, parse_eventPrefix_append_eight c' (hexEncode_length p), hdecode,
    Option.elim_some]

theorem CompleteMessage.ne_nil {m : ByteString} (hm : CompleteMessage m) : m ≠ [] := by
  rintro rfl
  exact hm

/-- Settles O54: the message is one packet, its datagram parses as that packet under the same APP, and
the packet's bytes are the message. -/
theorem messageCrossesTheNetworkUnchanged : Obligations.MessageCrossesTheNetworkUnchanged := by
  intro s q i d m h _ _ hm hq happ
  obtain ⟨-, p, hp, rfl⟩ := decodeBytes_completeMessage hm s.cfg.cable d
  obtain ⟨t, ht⟩ := send_of_holds h (packetBytes p)
  rw [hp] at ht
  obtain ⟨u, hu, hdec⟩ := relay_of_event hq (parse_buildEvent_of_app_eq happ p) hm.ne_nil
  exact ⟨t, u, buildEvent s.cfg p, ht, hu, hdec⟩

end Sys2Proof.Machine
end

section
/-!
PROOF. The discard causes (60_exceptions.md R301): the condition of each, those of DECODE by the class of
the byte and those of PARSE by the header of the datagram, and the result of each.
-/

namespace Sys2Proof.Machine

/-! The causes of DECODE -/

/-- The DC rows of R301, with the bytes of a row as their classes (R91). -/
def DiscardCause.DecodeCondition (b : Byte) (d : Decoder) : DiscardCause → Prop
  | .dc1 => classOf b = .data ∧ d.sx = false ∧ d.rs = 0x00
  | .dc2 => classOf b = .data ∧ d.sx = false ∧ d.exp = 0 ∧ d.rs ≠ 0x00
  | .dc3 => classOf b = .sxEnd ∧ d.sx = false
  | .dc4 => (classOf b = .sxEnd ∨ classOf b = .sxStart ∨ classOf b = .status) ∧ d.sx = false ∧ d.n ≠ 0
  | .dc5 => classOf b = .status ∧ d.sx = true
  | .dc6 => classOf b = .sxStart ∧ d.sx = true
  | .xc1 | .hc1 | .pc1 | .pc2 | .pc3 | .sc1 => False

/-- The branches of `decodeCauses` under one class exclude each other but for DC3 and DC4. -/
theorem mem_decodeCauses_iff {k : DiscardCause} {b : Byte} {d : Decoder} :
    k ∈ decodeCauses b d ↔ k.DecodeCondition b d := by
  unfold decodeCauses
  cases hb : classOf b with
  | rt => cases k <;> simp [DiscardCause.DecodeCondition, hb]
  | data | status | sxStart | sxEnd => cases k <;> grind [DiscardCause.DecodeCondition]

/-! The causes of EXPAND and of BUILD_HELLO -/

theorem xc1_mem_iff {p : Packet} :
    .xc1 ∈ expandCauses p ↔ cinOfPacket p = 0x0 ∨ cinOfPacket p = 0x1 := by
  simp [expandCauses]

theorem sc1_mem_iff {c : Config} {name : ByteString} :
    .sc1 ∈ helloCauses c name ↔ helloNameBad c name = true := by
  simp [helloCauses]

/-! The causes of HEX_DECODE -/

/-- HEX_DECODE reads eight characters and no more (R232). -/
theorem hexDecode_take (u : Bool) (str : ByteString) : hexDecode u (str.take 8) = hexDecode u str := by
  have hshort : (str.take 8).length < 8 ↔ str.length < 8 := by rw [List.length_take]; omega
  simp only [hexDecode, hshort, List.take_take, Nat.min_self]

/-- Cause HC1 is a failure of HEX_DECODE. -/
theorem hc1_mem_iff {u : Bool} {str : ByteString} :
    .hc1 ∈ hexCauses u str ↔ hexDecode u str = none := by
  have hbad : (str.take 8).any (fun ch => (nibbleOf u ch).isNone) = true ↔
      hexAccumulate u 0 (str.take 8) = none := by
    rw [hexAccumulate_eq_none_iff]
    simp
  by_cases hshort : str.length < 8
  · simp [hexCauses, hexDecode, hshort]
  · simp only [hexCauses, hexDecode, hshort, false_or, if_false, hbad]
    simp

/-- A failure is a missing character or one that is not accepted. -/
theorem hexDecode_eq_none_iff_short_or_bad {u : Bool} {str : ByteString} :
    hexDecode u str = none ↔
      str.length < 8 ∨ ∃ k ch, k < 8 ∧ str[k]? = some ch ∧ nibbleOf u ch = none := by
  rw [hexDecode_eq_none_iff]
  constructor
  · rintro ⟨k, hk, hbad⟩
    cases hget : str[k]? with
    | none => exact .inl (by rw [List.getElem?_eq_none_iff] at hget; omega)
    | some ch => exact .inr ⟨k, ch, by omega, hget, by simpa [hget] using hbad⟩
  · rintro (hshort | ⟨k, ch, hk, hget, hbad⟩)
    · exact ⟨7, le_rfl, by rw [List.getElem?_eq_none (by omega), Option.bind_none]⟩
    · exact ⟨k, by omega, by rw [hget, Option.bind_some, hbad]⟩

/-! The causes of PARSE -/

/-- MATCH says whether a datagram is a header and some rest. -/
theorem exists_eq_append_iff {d x : ByteString} :
    (∃ rest, d = x ++ rest) ↔ matchPrefix d x = true := by
  constructor
  · rintro ⟨rest, rfl⟩
    exact matchPrefix_append x rest
  · exact fun h => ⟨_, (append_drop_of_matchPrefix h).symm⟩

theorem forall_ne_append_iff {d x : ByteString} :
    (∀ rest, d ≠ x ++ rest) ↔ matchPrefix d x = false := by
  rw [← not_exists, exists_eq_append_iff, Bool.not_eq_true]

section
variable {c : Config} {d : ByteString}

theorem pc1_mem_iff :
    .pc1 ∈ parseCauses c d ↔
      matchPrefix d (eventPrefix c.app) = false ∧ matchPrefix d (byePrefix c.app) = false := by
  unfold parseCauses
  split_ifs <;> simp [*]

theorem pc2_mem_iff :
    .pc2 ∈ parseCauses c d ↔
      matchPrefix d (eventPrefix c.app) = true ∧ d.length < c.app.length + 20 := by
  unfold parseCauses
  split_ifs <;> simp [*]

theorem pc3_mem_iff :
    .pc3 ∈ parseCauses c d ↔
      matchPrefix d (eventPrefix c.app) = true ∧ c.app.length + 20 ≤ d.length ∧
        hexDecode c.hexUpper (d.drop (c.app.length + 12)) = none := by
  unfold parseCauses
  split_ifs <;> simp_all

/-- The bytes from L + 12 on, where there are eight of them, decode as the first eight alone. -/
theorem event_payload_undecodable_iff :
    (∃ h rest, d = eventPrefix c.app ++ h ++ rest ∧ h.length = 8 ∧ hexDecode c.hexUpper h = none) ↔
      matchPrefix d (eventPrefix c.app) = true ∧ c.app.length + 20 ≤ d.length ∧
        hexDecode c.hexUpper (d.drop (c.app.length + 12)) = none := by
  constructor
  · rintro ⟨h, rest, rfl, hlen, hbad⟩
    rw [List.append_assoc, ← eventPrefix_length, List.drop_left, ← hexDecode_take,
      List.take_left' hlen]
    refine ⟨matchPrefix_append _ _, ?_, hbad⟩
    simp only [List.length_append, eventPrefix_length]
    omega
  · rintro ⟨hmatch, hlen, hbad⟩
    obtain ⟨payload, rfl⟩ := exists_eq_append_iff.mpr hmatch
    rw [← eventPrefix_length, List.drop_left, ← hexDecode_take] at hbad
    refine ⟨payload.take 8, payload.drop 8, ?_, ?_, hbad⟩
    · rw [List.append_assoc, List.take_append_drop]
    · rw [List.length_append, eventPrefix_length] at hlen
      rw [List.length_take]
      omega

/-- A datagram with a cause is ignored: the branches of `parseCauses` are those of R260. -/
theorem parse_of_parseCauses_ne_nil (h : parseCauses c d ≠ []) : parse c d = .ignore := by
  simp only [parse, hexDecode_take]
  unfold parseCauses at h
  split_ifs at h ⊢ with hevent hshort hbad hbye
  · rfl
  · rw [Option.isNone_iff_eq_none.mp hbad]
  · exact absurd rfl h
  · exact absurd rfl h
  · rfl

end

/-! Every cause has its condition -/

/-- Settles O52: cause by cause, the class of a byte as the range of R91. -/
theorem discardCausesHaveTheirConditions : Obligations.DiscardCausesHaveTheirConditions := by
  refine ⟨fun b d => ?_, fun p => xc1_mem_iff, fun u str => ?_, fun c d => ⟨?_, ?_, ?_⟩,
    fun c name => ?_⟩
  · obtain ⟨-, hend, hstart, hstatus, hdata⟩ := streamBytesFallInTheirClasses b
    simp only [mem_decodeCauses_iff, DiscardCause.DecodeCondition, hend, hstart, hstatus, hdata,
      true_and, and_true]
    refine ⟨and_congr_left' ?_, and_congr_left' ?_⟩
    · bv_omega
    · bv_omega
  · rw [hc1_mem_iff, hexDecode_eq_none_iff_short_or_bad]
  · rw [pc1_mem_iff, forall_ne_append_iff, forall_ne_append_iff]
  · rw [pc2_mem_iff, exists_eq_append_iff]
  · rw [pc3_mem_iff, event_payload_undecodable_iff]
  · rw [sc1_mem_iff, helloNameBad_iff]

/-! The result of each cause -/

/-- A byte that changes nothing: its row answers and leaves the rest as it is. -/
theorem DecodesByte.answers_of_unchanged {x : Instr} {s : State} {i : Nat} {b : Byte} {d : Decoder}
    {p : Option Packet} (hx : DecodesByte x i b) (h : s.Holds i d)
    (he : decodeByte s.cfg.cable b d = (d, p)) : Answers x s (.packet p) := by
  have hd := hx.decodesTo_of_eq h he
  rwa [DecodesTo, h.set_decoders] at hd

/-- DC1 and DC2: the data byte is dropped. -/
theorem decodeByte_of_dc1_or_dc2 {b : Byte} {d : Decoder}
    (h : .dc1 ∈ decodeCauses b d ∨ .dc2 ∈ decodeCauses b d) (cable : Nibble) :
    decodeByte cable b d = (d, none) := by
  obtain h | h := h
  · obtain ⟨hb, hsx, hrs⟩ := mem_decodeCauses_iff.mp h
    rw [decodeByte_of_data hb, dataByte_of_no_status (Bool.eq_false_iff.mp hsx) hrs]
  · obtain ⟨hb, hsx, hexp, hrs⟩ := mem_decodeCauses_iff.mp h
    rw [decodeByte_of_data hb, dataByte_of_exp_zero (Bool.eq_false_iff.mp hsx) hrs hexp]

/-- The registers right after a status that takes two data bytes: nothing is buffered, and no sysex is
in progress. -/
def Decoder.idle : Decoder := { Decoder.reset with rs := 0x80, exp := 2 }

theorem Decoder.idle_legal : Decoder.idle.legal = true := by decide

/-- Under DC4, DC5 and DC6 a byte is an end marker outside sysex, a start marker or another status. -/
theorem class_of_discard {b : Byte} {d : Decoder}
    (h : .dc4 ∈ decodeCauses b d ∨ .dc5 ∈ decodeCauses b d ∨ .dc6 ∈ decodeCauses b d) :
    (b = 0xF7 ∧ d.sx = false) ∨ b = 0xF0 ∨ classOf b = .status := by
  obtain ⟨-, hend, hstart, -, -⟩ := streamBytesFallInTheirClasses b
  simp only [mem_decodeCauses_iff, DiscardCause.DecodeCondition, hend, hstart] at h
  obtain ⟨hb | hb | hb, hsx, -⟩ | ⟨hb, -⟩ | ⟨hb, -⟩ := h
  · exact .inl ⟨hb, hsx⟩
  · exact .inr (.inl hb)
  · exact .inr (.inr hb)
  · exact .inr (.inr hb)
  · exact .inr (.inl hb)

/-- A status that takes no data bytes has code index number 5 (R93). -/
theorem cinOf_of_expOf_zero {b : Byte} (hb : classOf b = .status) (he : expOf b = some 0) :
    cinOf b = some 0x5 := by
  revert b; decide

/-- What a status leaves and emits, with the packet of one that takes no data bytes written out. -/
theorem decodeByte_status_packet {b : Byte} (hb : classOf b = .status) (cable : Nibble) (d : Decoder) :
    ∃ e, expOf b = some e ∧ decodeByte cable b d = (⟨b, 0x00, 0x00, 0, e, false⟩,
      if e = 0 then some (mkPacket cable 0x5 b 0x00 0x00) else none) := by
  obtain ⟨e, c, he, hc⟩ := exists_row_of_status hb
  refine ⟨e, he, ?_⟩
  rw [decodeByte_status hb he hc]
  by_cases h0 : e = 0
  · subst h0
    obtain rfl : c = 0x5 := Option.some.inj (hc.symm.trans (cinOf_of_expOf_zero hb he))
    rfl
  · rw [if_neg h0, if_neg h0]

/-- Under DC4, DC5 and DC6 the byte does what it does on an idle decoder: what was buffered does not
show. -/
theorem decodeByte_eq_idle_of_discard {b : Byte} {d : Decoder}
    (h : .dc4 ∈ decodeCauses b d ∨ .dc5 ∈ decodeCauses b d ∨ .dc6 ∈ decodeCauses b d)
    (cable : Nibble) : decodeByte cable b d = decodeByte cable b Decoder.idle := by
  obtain ⟨rfl, hsx⟩ | rfl | hb := class_of_discard h
  · rw [decodeByte_end_of_not_sx hsx, decodeByte_end_of_not_sx rfl]
  · rfl
  · obtain ⟨e, c, he, hc⟩ := exists_row_of_status hb
    rw [decodeByte_status hb he hc, decodeByte_status hb he hc]

/-- A decoder that is held may be stepped from any other legal registers as well. -/
theorem State.Holds.with_registers {s : State} {i : Nat} {d d' : Decoder} (h : s.Holds i d)
    (hl : d'.legal = true) : (s.setDecoder i d').Holds i d' := by
  have ⟨hc, _, _⟩ := h
  have hlen : (s.setDecoder i d').decoders.length = s.decoders.length := List.length_set
  have hok : (s.setDecoder i d').configOk = s.configOk :=
    configOk_congr (State.setDecoder_cfg s i d') hlen
  exact ⟨hok.trans hc, h.getElem?_setDecoder d', hl⟩

/-- The results of DC4, DC5 and DC6 (R143, R153, R160): those of an idle decoder, written out. -/
theorem decodesTo_of_discard {s : State} {i : Nat} {d : Decoder} {b : Byte} (h : s.Holds i d)
    (hcause : .dc4 ∈ decodeCauses b d ∨ .dc5 ∈ decodeCauses b d ∨ .dc6 ∈ decodeCauses b d) :
    ∃ d' p, DecodesTo (decodeStreamByte i b) s i d' p ∧
      DecodesTo (decodeStreamByte i b) (s.setDecoder i Decoder.idle) i d' p ∧
      (b = 0xF7 → d' = Decoder.reset ∧ p = none) ∧
      (b = 0xF0 → d' = ⟨0xF0, 0xF0, 0x00, 1, 0, true⟩ ∧ p = none) ∧
      (b ≠ 0xF7 → b ≠ 0xF0 → ∃ e, expOf b = some e ∧ d' = ⟨b, 0x00, 0x00, 0, e, false⟩ ∧
        p = if e = 0 then some (mkPacket s.cfg.cable 0x5 b 0x00 0x00) else none) := by
  have hx := decodesByte_decodeStreamByte i b
  have hrun := hx.decodesTo h
  rw [decodeByte_eq_idle_of_discard hcause] at hrun
  refine ⟨(decodeByte s.cfg.cable b Decoder.idle).1, (decodeByte s.cfg.cable b Decoder.idle).2, hrun,
    hx.decodesTo (h.with_registers Decoder.idle_legal), ?_, ?_, fun hend hstart => ?_⟩
  · rintro rfl
    exact ⟨rfl, rfl⟩
  · rintro rfl
    exact ⟨rfl, rfl⟩
  · obtain ⟨hb, -⟩ | hb | hb := class_of_discard hcause
    · exact absurd hb hend
    · exact absurd hb hstart
    · obtain ⟨e, he, hidle⟩ := decodeByte_status_packet hb s.cfg.cable Decoder.idle
      rw [hidle]
      exact ⟨e, he, rfl, rfl⟩

/-- Settles O53: the causes of DECODE from legal registers, then those of the other operations. -/
theorem discardCausesHaveTheirResults : Obligations.DiscardCausesHaveTheirResults := by
  refine ⟨fun s i d b h => ⟨fun hcause => ?_, fun hcause => ?_, decodesTo_of_discard h⟩,
    fun s hc => ⟨fun p hcause => ?_, fun str hcause => ?_, fun d hcause => ?_,
      fun port name hcause => ?_⟩⟩
  · exact (decodesByte_decodeStreamByte i b).answers_of_unchanged h (decodeByte_of_dc1_or_dc2 hcause _)
  · obtain ⟨hb, hsx⟩ := mem_decodeCauses_iff.mp hcause
    obtain ⟨-, hend, -, -, -⟩ := streamBytesFallInTheirClasses b
    obtain rfl := hend.mp hb
    exact (decodesByte_decodeStreamByte i _).decodesTo_of_eq h (decodeByte_end_of_not_sx hsx _)
  · have hlen : cinLen (cinOfPacket p) = 0 := by
      obtain hcin | hcin := xc1_mem_iff.mp hcause
      · rw [hcin]; rfl
      · rw [hcin]; rfl
    exact answers_of_len_zero (exec_decodePacket p) hc hlen
  · exact answers_hexDecode_of_none hc (hc1_mem_iff.mp hcause)
  · exact answers_parse hc (parse_of_parseCauses_ne_nil hcause)
  · exact buildHello_of_bad (sc1_mem_iff.mp hcause) port ▸ answers_buildHello hc port name

end Sys2Proof.Machine
end

section
/-!
PROOF. The host beside the engine (60_exceptions.md R320 to R324): its startup, and that of all the work
of a dispatch cycle only a goodbye stops it.
-/

namespace Sys2Proof.Machine

/-! Startup (R320, R342) -/

/-- RESET of all, on a configured engine. -/
theorem transact_reset_all {s : State} (hc : s.configOk = true) :
    ∃ t, transact s (.reset .all) = .next t ∧ t.out = some .resetDone ∧ t.cfg = s.cfg ∧
      t.decoders = s.decoders.map (fun _ => Decoder.reset) :=
  ⟨_, configured_of_configOk (s := { s with requests := [.reset .all] }) hc _, rfl, rfl, rfl⟩

/-- BUILD_HELLO on a configured engine. -/
theorem transact_buildHello {s : State} (hc : s.configOk = true) (port : BitVec 16)
    (name : ByteString) :
    ∃ t, transact s (.buildHello port name) = .next t ∧
      t.out = some (.hello (buildHello s.cfg port name)) ∧ t.cfg = s.cfg ∧ t.decoders = s.decoders :=
  ⟨_, transact_of_answers
    (answers_buildHello (s := { s with requests := [.buildHello port name] }) hc port name), rfl, rfl,
    rfl⟩

/-- The two transactions of the startup, one after the other. -/
theorem present_startup {s : State} (hc : s.configOk = true) (port : BitVec 16) (name : ByteString) :
    ∃ t, present s [.reset .all, .buildHello port name] =
        some (t, [.resetDone, .hello (buildHello s.cfg port name)]) ∧
      t.cfg = s.cfg ∧ t.decoders = s.decoders.map (fun _ => Decoder.reset) := by
  obtain ⟨t, ht, hout, hcfg, hdec⟩ := transact_reset_all hc
  obtain ⟨u, hu, hout', hcfg', hdec'⟩ :=
    transact_buildHello ((transact_configOk_eq ht).trans hc) port name
  refine ⟨u, ?_, hcfg'.trans hcfg, hdec'.trans hdec⟩
  rw [present_cons ht, present_cons hu, hout, hout', hcfg]
  rfl

/-- Settles O56: the two results of the startup, with a hello and without one. -/
theorem startupResetsAndSaysHelloOnce : Obligations.StartupResetsAndSaysHelloOnce := by
  intro s rx port name hc
  obtain ⟨t, ht, hcfg, hdec⟩ := present_startup hc port name
  refine ⟨fun g hg => ?_, fun hnone => ?_⟩
  · rw [hg] at ht
    refine ⟨⟨t, [g], [], false, rx⟩, ?_, rfl, rfl, rfl, hcfg, fun d hd => ?_⟩
    · rw [Bridge.start, ht]
    · rw [hdec] at hd
      obtain ⟨_, -, rfl⟩ := List.mem_map.mp hd
      rfl
  · rw [hnone] at ht
    rw [Bridge.start, ht]

/-! What the two paths keep and what stops the host (R322, R324) -/

/-- PARSE shows the result of R260, wherever it runs. -/
theorem transact_parse_out {s t : State} {d : ByteString} (h : transact s (.parse d) = .next t) :
    t.out = some (.parsed (parse s.cfg d)) := by
  obtain ⟨-, rfl⟩ :=
    pureOp_next ((exec_decodeDatagram d { s with requests := [.parse d] }).symm.trans h)
  rfl

/-- PARSE answers GOODBYE exactly for the datagrams with that header. -/
theorem parse_eq_goodbye_iff {c : Config} {d : ByteString} :
    parse c d = .goodbye ↔ matchPrefix d (byePrefix c.app) = true := by
  constructor
  · contrapose!
    intro hbye
    cases hevent : matchPrefix d (eventPrefix c.app) with
    | false => simp [parse, hevent, hbye]
    | true =>
      rw [← append_drop_of_matchPrefix hevent, parse_eventPrefix_append, parseEventPayload]
      split
      · nofun
      · split <;> nofun
  · intro hbye
    rw [← append_drop_of_matchPrefix hbye, parse_byePrefix_append]

/-- A relayed datagram keeps the configuration, and only one with the goodbye header stops the host. -/
theorem relay_some {s t : State} {d : ByteString} {a : HostAction} (h : relay s d = some (t, a)) :
    t.cfg = s.cfg ∧ (a = .stopAfterCycle ↔ matchPrefix d (byePrefix s.cfg.app) = true) := by
  rw [← parse_eq_goodbye_iff]
  unfold relay at h
  split at h
  next u hu =>
    have hcfg := transact_cfg_eq hu
    rw [transact_parse_out hu] at h
    cases hp : parse s.cfg d with
    | event p =>
      simp only [hp] at h
      obtain ⟨⟨v, bs⟩, hv, he⟩ := Option.map_eq_some_iff.mp h
      cases he
      refine ⟨(transact_cfg_eq (transact_of_expandBytes hv)).trans hcfg, iff_of_false ?_ nofun⟩
      split <;> nofun
    | goodbye =>
      simp only [hp] at h
      cases h
      exact ⟨hcfg, iff_of_true rfl rfl⟩
    | ignore =>
      simp only [hp] at h
      cases h
      exact ⟨hcfg, iff_of_false nofun nofun⟩
  next => cases h

/-- The engine that `eventDatagram` leaves is that of the BUILD_EVENT transaction. -/
theorem transact_of_eventDatagram {s t : State} {p : Packet} {g : ByteString}
    (h : eventDatagram s p = some (t, g)) : transact s (.buildEvent p) = .next t := by
  unfold eventDatagram at h
  split at h
  next u hu =>
    split at h
    · cases h
      exact hu
    · cases h
  next => cases h

/-- DECODE shows a packet or no packet, wherever it runs. -/
theorem transact_decode_out {s t : State} {i : Nat} {b : Byte}
    (h : transact s (.decode i b) = .next t) : ∃ p, t.out = some (.packet p) := by
  obtain ⟨d, -, rfl⟩ := decodeOp_next ((decodesByte_decodeStreamByte i b _).symm.trans h)
  exact ⟨_, rfl⟩

theorem sendByte_cfg_eq {s t : State} {i : Nat} {b : Byte} {gs : List ByteString}
    (h : sendByte s i b = some (t, gs)) : t.cfg = s.cfg := by
  cases hu : transact s (.decode i b) with
  | next u =>
    have hcfg := transact_cfg_eq hu
    obtain ⟨_ | p, hp⟩ := transact_decode_out hu
    · cases (sendByte_of_no_packet hu hp).symm.trans h
      exact hcfg
    · obtain ⟨⟨v, g⟩, hv, he⟩ :=
        Option.map_eq_some_iff.mp ((sendByte_of_packet hu hp).symm.trans h)
      cases he
      exact (transact_cfg_eq (transact_of_eventDatagram hv)).trans hcfg
  | fault f => exact nomatch f
  | refused e => simp [sendByte, hu] at h

theorem send_cfg_eq {s t : State} {i : Nat} {bs : ByteString} {gs : List ByteString}
    (h : send s i bs = some (t, gs)) : t.cfg = s.cfg := by
  induction bs generalizing s gs with
  | nil => cases h; rfl
  | cons b bs ih =>
    unfold send at h
    split at h
    next u _ hu =>
      obtain ⟨⟨v, _⟩, hv, he⟩ := Option.map_eq_some_iff.mp h
      cases he
      exact (ih hv).trans (sendByte_cfg_eq hu)
    next => cases h

/-- The work is a datagram that, as delivered, has the goodbye header. -/
def HostWork.bringsGoodbye (rxMax : Option Nat) (app : ByteString) : HostWork → Bool
  | .busEvent _ _ => false
  | .datagram d => matchPrefix (delivered rxMax d) (byePrefix app)

theorem HostWork.bringsGoodbye_iff {rxMax : Option Nat} {app : ByteString} {w : HostWork} :
    w.bringsGoodbye rxMax app = true ↔
      ∃ d, w = .datagram d ∧ matchPrefix (delivered rxMax d) (byePrefix app) = true := by
  cases w <;> simp [HostWork.bringsGoodbye]

/-- One piece of work keeps what the next is judged by, and says whether it was a goodbye. -/
theorem Bridge.work_some {h k : Bridge} {w : HostWork} {bye : Bool} (hw : h.work w = some (k, bye)) :
    k.engine.cfg = h.engine.cfg ∧ k.rxMax = h.rxMax ∧
      bye = w.bringsGoodbye h.rxMax h.engine.cfg.app := by
  cases w with
  | busEvent i bytes =>
    obtain ⟨⟨t, gs⟩, ht, he⟩ := Option.map_eq_some_iff.mp hw
    cases he
    exact ⟨send_cfg_eq ht, rfl, rfl⟩
  | datagram d =>
    obtain ⟨⟨t, a⟩, ht, he⟩ := Option.map_eq_some_iff.mp hw
    obtain ⟨hcfg, hbye⟩ := relay_some ht
    cases a with
    | stopAfterCycle => cases he; exact ⟨hcfg, rfl, (hbye.mp rfl).symm⟩
    | submit | nothing =>
      cases he
      exact ⟨hcfg, rfl, (Bool.eq_false_iff.mpr fun hm => nomatch hbye.mpr hm).symm⟩

/-- All the work of a cycle: a goodbye is reported exactly if some piece of it was one. -/
theorem Bridge.works_some {h k : Bridge} {ws : List HostWork} {bye : Bool}
    (hws : h.works ws = some (k, bye)) :
    bye = ws.any (HostWork.bringsGoodbye h.rxMax h.engine.cfg.app) := by
  induction ws generalizing h bye with
  | nil => cases hws; rfl
  | cons w ws ih =>
    unfold Bridge.works at hws
    split at hws
    next j byeFirst hw =>
      obtain ⟨⟨_, byeRest⟩, hrest, he⟩ := Option.map_eq_some_iff.mp hws
      cases he
      obtain ⟨hcfg, hrx, hfirst⟩ := Bridge.work_some hw
      rw [List.any_cons, ← hfirst, ih hrest, hcfg, hrx]
    next => cases hws

/-- Settles O55: a running host is stopped exactly where the work of the cycle reports a goodbye. -/
theorem onlyGoodbyeStopsTheHost : Obligations.OnlyGoodbyeStopsTheHost := by
  intro h k ws hrun hcycle
  rw [Bridge.cycle, hrun] at hcycle
  obtain ⟨⟨j, bye⟩, hws, rfl⟩ := Option.map_eq_some_iff.mp hcycle
  obtain rfl := Bridge.works_some hws
  simp only [List.any_eq_true, HostWork.bringsGoodbye_iff]
  constructor
  · rintro ⟨_, hmem, d, rfl, hd⟩
    exact ⟨d, hmem, hd⟩
  · rintro ⟨d, hmem, hd⟩
    exact ⟨_, hmem, d, rfl, hd⟩

end Sys2Proof.Machine
end

section
/-!
PROOF. The reset transaction and the stream byte 0xFF (70_reset_and_hazards.md R340), and the agreement
of the decoder's tables with the expander's (R349).
-/

namespace Sys2Proof.Machine

/-! The tables of the two paths (R349) -/

/-- Every byte with a code index number is a status byte, but the sysex start. -/
theorem classOf_of_isSome_cinOf {b : Byte} (hF0 : b ≠ 0xF0) (hc : (cinOf b).isSome) :
    classOf b = .status := by
  revert b; decide

/-- Settles O16: the length of a status's code index number is its count plus one, as two-bit numbers;
no count is 3, so the sum does not wrap. -/
theorem decoderAndExpanderTablesAgree : Obligations.DecoderAndExpanderTablesAgree := by
  refine ⟨fun b e c hF0 he hc => ?_, rfl, rfl⟩
  have hb := classOf_of_isSome_cinOf hF0 (Option.isSome_of_eq_some hc)
  have hlen : cinLen c = e + 1 := cinLen_of_status hb he hc
  have h3 : e ≠ 3 := fun h => expOf_ne_three b (h ▸ he)
  bv_omega

/-! RESET and SYSTEM_RESET (R340, R145) -/

/-- A RESET of one decoder asks only that it is held: its registers need not be legal (log 6). -/
theorem execReset_one_of_held {s : State} {i : Nat} (hc : s.configOk = true)
    (hi : i < s.decoders.length) :
    execReset (.one i) s = .next ((s.setDecoder i Decoder.reset).finish .resetDone) := by
  simp [execReset, hc, List.getElem?_eq_getElem hi]

theorem execReset_all_of_configOk {s : State} (hc : s.configOk = true) :
    execReset .all s = .next ((s.setAllDecoders Decoder.reset).finish .resetDone) :=
  configured_of_configOk hc _

/-- Every decoder at one value, as a list of copies of it. -/
theorem State.setAllDecoders_decoders_eq_replicate (s : State) (d : Decoder) :
    (s.setAllDecoders d).decoders = List.replicate s.decoders.length d :=
  List.map_const'

/-- A real-time row that answers has left every decoder as it was. -/
theorem DecodesByte.decoders_eq_of_rt {x : Instr} {s t : State} {i : Nat} {b : Byte}
    (hx : DecodesByte x i b) (hb : classOf b = .rt) (h : exec x s = .next t) :
    t.decoders = s.decoders := by
  obtain ⟨d, hd, -⟩ := decodeOp_next ((hx s).symm.trans h)
  have hans : exec x s = .next _ := hx.answers_of_rt hb hd
  cases h.symm.trans hans
  rfl

/-- Settles O51: RESET of one decoder, RESET of all, and the real-time byte 0xFF, which is no RESET. -/
theorem resetClearsTheNamedInstances : Obligations.ResetClearsTheNamedInstances := by
  refine fun s hc => ⟨fun i hi => execReset_one_of_held hc hi, ?_, fun i t h => ?_⟩
  · rw [exec_reset, execReset_all_of_configOk hc, State.finish,
      State.setAllDecoders_decoders_eq_replicate]
    rfl
  · have hx : DecodesByte (.systemReset i) i 0xFF := decodesByte_of_encode (c := s.cfg) rfl
    exact hx.decoders_eq_of_rt (by decide) h

end Sys2Proof.Machine
end
